-- ==== Sys2Proof/Word.lean ====
section
/-! DEFINITION. The bit widths of the block (00_scope.md R8, 10_state.md R20, 30_encoding.md R82). -/

namespace Sys2Proof

/-- A port register, a mask, a ROM entry (00_scope.md R8). -/
abbrev Byte := BitVec 8

/-- A micro-op word (30_encoding.md R80). -/
abbrev Word := BitVec 16

/-- A physical port number as a 4-bit field (30_encoding.md R82). -/
abbrev PortNo := BitVec 4

/-- A pin number inside a port (30_encoding.md R82). -/
abbrev PinNo := BitVec 3

/-- A virtual port number (10_state.md R36). -/
abbrev VPortNo := BitVec 2

/-- One 4-bit count of a failure code (10_state.md R20). -/
abbrev Count := BitVec 4

end Sys2Proof
end

