-- ==== Sys2Proof/Config.lean ====
section
/-! DEFINITION. What an implementation fixes: the board flags (00_scope.md R5), the numeric parameters (R6) and the
pin bindings (R7); and the values the spec leaves open, as constants without a body. -/

namespace Sys2Proof

/-- The unit bit of DELAY: 0 is µs, 1 is ms (30_encoding.md R81, R82). -/
inductive TimeUnit where
  | us
  | ms
deriving DecidableEq, Repr

/-- A duration in µs or ms, written with its unit (20_memory.md R65). DESIGN CHOICE: it is a whole count of its unit, HB_UNIT's
included, where 00_scope.md R6 and 44_signaling.md R193 leave open whether it may hold a fraction (log entry 13). -/
structure Duration where
  count : Nat
  unit : TimeUnit
deriving DecidableEq, Repr

/-- What a wait lasts: a duration in µs or ms, or a number of heartbeat time units, whose length is the OPEN parameter
`hbUnit` (20_memory.md R65, 44_signaling.md R191, R193; log entry 13). -/
inductive WaitTime where
  | span (d : Duration)
  | heartUnits (n : Nat)
deriving DecidableEq, Repr

/-- A single-line binding (port, pin) (00_scope.md R7). -/
structure Line where
  port : PortNo
  pin : PinNo
deriving DecidableEq, Repr

/-- The configuration of a board, fixed for a whole run (00_scope.md R5, R6, R7). The numeric parameters carry the
document's defaults of R6. `ccpKey`, `phyPenLevel` and `hbUnit` are the three OPEN parameters (92 D16, D20, D23). -/
structure Config where
  clockedRead : Bool
  bitReverse : Bool
  inputInvert : Bool
  hasEth : Bool
  hasStorage : Bool
  nports : Nat
  pObs : PortNo
  pPhyd : PortNo
  led : Line
  phyPen : Line
  phyClk : Line
  phyOe : Line
  ethCs : Line
  ethSck : Line
  ethMosi : Line
  ethMiso : Line
  ethRst : Line
  storClk : Line
  storTx : Line
  storCs : Line
  vpmapCfg : List (VPortNo × PortNo)
  ethBaud : Byte
  ethCpol : Bool
  phyPenLevel : Bool
  ccpKey : Byte
  hbUnit : Duration
  tSettle : Duration := ⟨1, .us⟩
  tSlowOn : Duration := ⟨500, .ms⟩
  tSlowOff : Duration := ⟨500, .ms⟩
  tFastOn : Duration := ⟨200, .ms⟩
  tFastOff : Duration := ⟨200, .ms⟩
  tGap : Duration := ⟨1500, .ms⟩
  tEnd : Duration := ⟨4000, .ms⟩
  tEthSettle : Duration := ⟨1, .ms⟩
  tEthRst : Duration := ⟨50, .us⟩
  tEthPost : Duration := ⟨1, .ms⟩
  hbTop : Nat := 32
  hbMid : Nat := 16
deriving DecidableEq, Repr

/-- OPEN: the protection key of the reference configuration, "left symbolic" (45_post_sequence.md R209, 93 U8).
Log entry 13. -/
opaque Config.openCcpKey : Byte

/-- OPEN: how many µs or ms the heartbeat time unit lasts (44_signaling.md R193, 93 U10). Log entry 13. -/
opaque Config.openHbCount : Nat

/-- OPEN: the unit the heartbeat time unit is written in (44_signaling.md R193, 93 U10). Log entry 13. -/
opaque Config.openHbUnit : Bool

/-- FREE VALUE: the levels of the eight pins of a port at the n-th read of IN since the machine was built
(10_state.md R33, 93 U6, U18). Log entry 4. -/
opaque Config.freePins : Nat → PortNo → Byte

/-- FREE VALUE: the level on an output pin whose INVEN bit is 1 (10_state.md R31, 93 U5), at the point of a run where n
events other than Halt have been recorded. Log entry 14. -/
opaque Config.invertedDrive : Nat → PortNo → PinNo → Bool

/-- FREE VALUE: whether the indicator shows when its pin is driven high, which 70_reset_and_hazards.md R248 leaves open, at the
point of a run where n events other than Halt have been recorded. Log entry 25. -/
opaque Config.indicatorDrivenHigh : Nat → Bool

/-- The reference configuration (45_post_sequence.md R209), with every board flag clear (R210). Log entries 1, 13. -/
def Config.reference : Config where
  clockedRead := false
  bitReverse := false
  inputInvert := false
  hasEth := false
  hasStorage := false
  nports := 6
  pObs := 0
  pPhyd := 1
  led := ⟨3, 0⟩
  phyPen := ⟨2, 0⟩
  phyClk := ⟨2, 1⟩
  phyOe := ⟨2, 2⟩
  ethCs := ⟨4, 0⟩
  ethSck := ⟨4, 1⟩
  ethMosi := ⟨4, 2⟩
  ethMiso := ⟨4, 3⟩
  ethRst := ⟨4, 4⟩
  storCs := ⟨5, 0⟩
  storClk := ⟨5, 1⟩
  storTx := ⟨5, 2⟩
  vpmapCfg := [(0, 0), (1, 1), (2, 2), (3, 3)]
  ethBaud := 3
  ethCpol := false
  phyPenLevel := false
  ccpKey := Config.openCcpKey
  hbUnit := ⟨Config.openHbCount, if Config.openHbUnit then .ms else .us⟩

end Sys2Proof
end

