-- ==== Sys2Proof/Syntax.lean ====
section
/-! DEFINITION. The micro-ops of POSTSEQ-1, one constructor per row of spec/opcode_table.json (30_encoding.md R81 to R85). -/

namespace Sys2Proof

/-- A decoded micro-op. Fields are the word's own bits (30_encoding.md R82). -/
inductive Instr where
  /-- R100 -/
  | nop
  /-- R101 -/
  | dbgoff
  /-- R102: virtual port k, physical port p -/
  | vpmap (k : VPortNo) (p : PortNo)
  /-- R120: port p, mask m -/
  | dirset (p : PortNo) (m : Byte)
  /-- R122 -/
  | dirclr (p : PortNo) (m : Byte)
  /-- R124 -/
  | outset (p : PortNo) (m : Byte)
  /-- R126 -/
  | outclr (p : PortNo) (m : Byte)
  /-- R128: port p, pin, PULLUP a, INVEN v -/
  | pincfg (p : PortNo) (pin : PinNo) (a v : Bool)
  /-- R103: unit u, count n -/
  | delay (u : TimeUnit) (n : BitVec 11)
  /-- R130: BAUD b, CPOL c, TXEN t, RXEN r -/
  | spicfg (b : Byte) (c t r : Bool)
  /-- R146 -/
  | rdphy
  /-- R160 -/
  | idlechk
  /-- R163: the field n = w[2:0]; the line number is n + 1 -/
  | linetest (n : BitVec 3)
  /-- R182: long, short and extra count -/
  | fail (l sc e : Count)
  /-- R190 -/
  | heartbeat
  /-- R84: the reserved opcode 0xF with its low twelve bits -/
  | reserved (x : BitVec 12)
deriving DecidableEq, Repr

end Sys2Proof
end

