-- ==== Sys2Proof/WellFormed.lean ====
section
/-! DEFINITION. Which operands a micro-op of the table may carry on a board of `nports` ports (30_encoding.md R84, conditions 3 and 4). -/

namespace Sys2Proof

/-- The port field names a port that exists (30_encoding.md R84, condition 3). -/
def portExists (nports : Nat) (p : PortNo) : Bool := decide (p.toNat < nports)

/-- A count of a failure code is in 0..9 (00_scope.md R6, 30_encoding.md R84, condition 4). -/
def countLegal (c : Count) : Bool := decide (c.toNat ≤ 9)

/-- The operands are ones the decoder accepts. The reserved row is syntax the table has, so it is well formed here; that
executing it is ILLEGAL is its meaning. -/
def Instr.wf (nports : Nat) : Instr → Bool
  | .nop => true
  | .dbgoff => true
  | .vpmap _ p => portExists nports p
  | .dirset p _ => portExists nports p
  | .dirclr p _ => portExists nports p
  | .outset p _ => portExists nports p
  | .outclr p _ => portExists nports p
  | .pincfg p _ _ _ => portExists nports p
  | .delay _ _ => true
  | .spicfg _ _ _ _ => true
  | .rdphy => true
  | .idlechk => true
  | .linetest _ => true
  | .fail l sc e => countLegal l && countLegal sc && countLegal e
  | .heartbeat => true
  | .reserved _ => true

end Sys2Proof
end

