-- ==== Sys2Proof/Decode.lean ====
section
/-! DEFINITION. The decoder (30_encoding.md R85) and, after it, an encoder written from the format table (R81, R83). -/

namespace Sys2Proof

/-- Why a word of opcode 0x0 to 0xE is ILLEGAL (30_encoding.md R84, conditions 2, 3 and 4). -/
inductive IllegalReason where
  | mustBeZero
  | noSuchPort
  | countAboveNine
deriving DecidableEq, Repr

/-- `w[hi:lo]` as a vector of `n` bits (00_scope.md R9). -/
def field (w : Word) (lo n : Nat) : BitVec n := w.extractLsb' lo n

/-- One bit of a word (00_scope.md R9). -/
def bitAt (w : Word) (i : Nat) : Bool := w.getLsbD i

/-- Format Z: bits 11:0 must be 0 (30_encoding.md R81). -/
def decodeZ (w : Word) (i : Instr) : Except IllegalReason Instr :=
  if field w 0 12 = 0 then .ok i else .error .mustBeZero

/-- Format V (30_encoding.md R81). -/
def decodeV (nports : Nat) (w : Word) : Except IllegalReason Instr :=
  if field w 6 6 ≠ 0 then .error .mustBeZero
  else if portExists nports (field w 0 4) then .ok (.vpmap (field w 4 2) (field w 0 4))
  else .error .noSuchPort

/-- Format PM (30_encoding.md R81). -/
def decodePM (nports : Nat) (w : Word) (mk : PortNo → Byte → Instr) : Except IllegalReason Instr :=
  if portExists nports (field w 8 4) then .ok (mk (field w 8 4) (field w 0 8)) else .error .noSuchPort

/-- Format PC (30_encoding.md R81). -/
def decodePC (nports : Nat) (w : Word) : Except IllegalReason Instr :=
  if field w 0 3 ≠ 0 then .error .mustBeZero
  else if portExists nports (field w 8 4) then
    .ok (.pincfg (field w 8 4) (field w 5 3) (bitAt w 4) (bitAt w 3))
  else .error .noSuchPort

/-- Format D; every word is legal (30_encoding.md R81, R85). -/
def decodeD (w : Word) : Except IllegalReason Instr :=
  .ok (.delay (if bitAt w 11 then .ms else .us) (field w 0 11))

/-- Format S (30_encoding.md R81). -/
def decodeS (w : Word) : Except IllegalReason Instr :=
  if bitAt w 11 then .error .mustBeZero
  else .ok (.spicfg (field w 0 8) (bitAt w 8) (bitAt w 9) (bitAt w 10))

/-- Format L (30_encoding.md R81). -/
def decodeL (w : Word) : Except IllegalReason Instr :=
  if field w 3 9 = 0 then .ok (.linetest (field w 0 3)) else .error .mustBeZero

/-- Format F (30_encoding.md R81). -/
def decodeF (w : Word) : Except IllegalReason Instr :=
  if countLegal (field w 8 4) && countLegal (field w 4 4) && countLegal (field w 0 4) then
    .ok (.fail (field w 8 4) (field w 4 4) (field w 0 4))
  else .error .countAboveNine

/-- The decoder, total on every word (30_encoding.md R80, R85). An ILLEGAL word of a defined opcode is refused with its
reason; the reserved opcode 0xF gives the table's own row, whose meaning is the same halt (log entry 7). -/
def decode (nports : Nat) (w : Word) : Except IllegalReason Instr :=
  match (field w 12 4).toNat with
  | 0 => decodeZ w .nop
  | 1 => decodeZ w .dbgoff
  | 2 => decodeV nports w
  | 3 => decodePM nports w .dirset
  | 4 => decodePM nports w .dirclr
  | 5 => decodePM nports w .outset
  | 6 => decodePM nports w .outclr
  | 7 => decodePC nports w
  | 8 => decodeD w
  | 9 => decodeS w
  | 10 => decodeZ w .rdphy
  | 11 => decodeZ w .idlechk
  | 12 => decodeL w
  | 13 => decodeF w
  | 14 => decodeZ w .heartbeat
  | _ => .ok (.reserved (field w 0 12))

/-- The instruction of a word numbered as spec/opcode_table.json numbers it. Every row is one 16-bit word (30_encoding.md
R86), so a longer one is no instruction; the board is the reference configuration (log entry 17). -/
def decodeTableWord (nbits w : Nat) : Option Instr :=
  if nbits ≤ 16 then
    match decode Config.reference.nports (BitVec.ofNat 16 (w % 2 ^ nbits)) with
    | .ok i => some i
    | .error _ => none
  else none

/-- A field's bits placed at bit `lo` of a word (30_encoding.md R81). -/
def place {n : Nat} (x : BitVec n) (lo : Nat) : Word := x.setWidth 16 <<< lo

/-- A one-bit field placed at bit `lo` of a word (30_encoding.md R81). -/
def placeBit (b : Bool) (lo : Nat) : Word := place (BitVec.ofBool b) lo

/-- The unit bit of format D: 0 for µs, 1 for ms (30_encoding.md R81). -/
def unitBit : TimeUnit → Bool
  | .us => false
  | .ms => true

/-- The word of a micro-op: the opcode in bits 15:12 (30_encoding.md R83) and the fields of its format where R81 puts them. -/
def encode : Instr → Word
  | .nop => 0x0000
  | .dbgoff => 0x1000
  | .vpmap k p => 0x2000 ||| place k 4 ||| place p 0
  | .dirset p m => 0x3000 ||| place p 8 ||| place m 0
  | .dirclr p m => 0x4000 ||| place p 8 ||| place m 0
  | .outset p m => 0x5000 ||| place p 8 ||| place m 0
  | .outclr p m => 0x6000 ||| place p 8 ||| place m 0
  | .pincfg p pin a v => 0x7000 ||| place p 8 ||| place pin 5 ||| placeBit a 4 ||| placeBit v 3
  | .delay u n => 0x8000 ||| placeBit (unitBit u) 11 ||| place n 0
  | .spicfg b c t r => 0x9000 ||| placeBit r 10 ||| placeBit t 9 ||| placeBit c 8 ||| place b 0
  | .rdphy => 0xA000
  | .idlechk => 0xB000
  | .linetest n => 0xC000 ||| place n 0
  | .fail l sc e => 0xD000 ||| place l 8 ||| place sc 4 ||| place e 0
  | .heartbeat => 0xE000
  | .reserved x => 0xF000 ||| place x 0

end Sys2Proof
end

