-- ==== Sys2Proof/Machine/Operands.lean ====
section
/-! DEFINITION. Operand forms and the block's operations on data: masks, line numbers, durations, the bit-reversal ROM, the
lowest-set-bit encoder, inversion of the input path, and indexing of the register files. -/

namespace Sys2Proof.Machine

/-- `bit(i)` for a pin number (00_scope.md R9). -/
def bit (i : PinNo) : Byte := 1#8 <<< i.toNat

/-- The mask of a single-line binding (30_encoding.md R87). -/
def lineMaskOf (l : Line) : Byte := bit l.pin

/-- The line number of LINETEST, `w[2:0] + 1` (30_encoding.md R82, 00_scope.md R11). -/
def lineNumber (n : BitVec 3) : BitVec 4 := n.setWidth 4 + 1

/-- The mask of LINETEST, `bit(w[2:0])` (30_encoding.md R82). -/
def lineMask (n : BitVec 3) : Byte := bit n

/-- What DELAY waits for (30_encoding.md R82). -/
def delayTime (u : TimeUnit) (n : BitVec 11) : WaitTime := .span ⟨n.toNat, u⟩

/-- A duration in µs (20_memory.md R65). -/
def micros (d : Duration) : Nat :=
  match d.unit with
  | .us => d.count
  | .ms => d.count * 1000

/-- The nominal length of a wait in µs on a board (20_memory.md R65, 44_signaling.md R193). -/
def waitMicros (c : Config) : WaitTime → Nat
  | .span d => micros d
  | .heartUnits n => n * micros c.hbUnit

/-- A register of a file of sixteen, by port (10_state.md R27). -/
def getPort {α : Type} (v : Vector α 16) (p : PortNo) : α := v[p.toNat]'p.isLt

/-- The file with one port's register replaced. -/
def setPort {α : Type} (v : Vector α 16) (p : PortNo) (x : α) : Vector α 16 := v.set p.toNat x p.isLt

/-- A register of a file of eight, by pin (10_state.md R27). -/
def getPin {α : Type} (v : Vector α 8) (i : PinNo) : α := v[i.toNat]'i.isLt

/-- The file with one pin's register replaced. -/
def setPin {α : Type} (v : Vector α 8) (i : PinNo) (x : α) : Vector α 8 := v.set i.toNat x i.isLt

/-- A register of a file of four, by virtual port (10_state.md R36). -/
def getVPort {α : Type} (v : Vector α 4) (k : VPortNo) : α := v[k.toNat]'k.isLt

/-- The file with one virtual port's register replaced. -/
def setVPort {α : Type} (v : Vector α 4) (k : VPortNo) (x : α) : Vector α 4 := v.set k.toNat x k.isLt

/-- `lsbenc(v)`: one more than the index of the lowest set bit, 9 when there is none (42_read_primitive.md R147). -/
def lsbenc (v : Byte) : Count :=
  if v.getLsbD 0 then 1
  else if v.getLsbD 1 then 2
  else if v.getLsbD 2 then 3
  else if v.getLsbD 3 then 4
  else if v.getLsbD 4 then 5
  else if v.getLsbD 5 then 6
  else if v.getLsbD 6 then 7
  else if v.getLsbD 7 then 8
  else 9

/-! The rows of the table of 42_read_primitive.md R144, one per high hex digit of the address. -/

def romRow0 : Vector Byte 16 := #v[0x00, 0x80, 0x40, 0xC0, 0x20, 0xA0, 0x60, 0xE0, 0x10, 0x90, 0x50, 0xD0, 0x30, 0xB0, 0x70, 0xF0]
def romRow1 : Vector Byte 16 := #v[0x08, 0x88, 0x48, 0xC8, 0x28, 0xA8, 0x68, 0xE8, 0x18, 0x98, 0x58, 0xD8, 0x38, 0xB8, 0x78, 0xF8]
def romRow2 : Vector Byte 16 := #v[0x04, 0x84, 0x44, 0xC4, 0x24, 0xA4, 0x64, 0xE4, 0x14, 0x94, 0x54, 0xD4, 0x34, 0xB4, 0x74, 0xF4]
def romRow3 : Vector Byte 16 := #v[0x0C, 0x8C, 0x4C, 0xCC, 0x2C, 0xAC, 0x6C, 0xEC, 0x1C, 0x9C, 0x5C, 0xDC, 0x3C, 0xBC, 0x7C, 0xFC]
def romRow4 : Vector Byte 16 := #v[0x02, 0x82, 0x42, 0xC2, 0x22, 0xA2, 0x62, 0xE2, 0x12, 0x92, 0x52, 0xD2, 0x32, 0xB2, 0x72, 0xF2]
def romRow5 : Vector Byte 16 := #v[0x0A, 0x8A, 0x4A, 0xCA, 0x2A, 0xAA, 0x6A, 0xEA, 0x1A, 0x9A, 0x5A, 0xDA, 0x3A, 0xBA, 0x7A, 0xFA]
def romRow6 : Vector Byte 16 := #v[0x06, 0x86, 0x46, 0xC6, 0x26, 0xA6, 0x66, 0xE6, 0x16, 0x96, 0x56, 0xD6, 0x36, 0xB6, 0x76, 0xF6]
def romRow7 : Vector Byte 16 := #v[0x0E, 0x8E, 0x4E, 0xCE, 0x2E, 0xAE, 0x6E, 0xEE, 0x1E, 0x9E, 0x5E, 0xDE, 0x3E, 0xBE, 0x7E, 0xFE]
def romRow8 : Vector Byte 16 := #v[0x01, 0x81, 0x41, 0xC1, 0x21, 0xA1, 0x61, 0xE1, 0x11, 0x91, 0x51, 0xD1, 0x31, 0xB1, 0x71, 0xF1]
def romRow9 : Vector Byte 16 := #v[0x09, 0x89, 0x49, 0xC9, 0x29, 0xA9, 0x69, 0xE9, 0x19, 0x99, 0x59, 0xD9, 0x39, 0xB9, 0x79, 0xF9]
def romRowA : Vector Byte 16 := #v[0x05, 0x85, 0x45, 0xC5, 0x25, 0xA5, 0x65, 0xE5, 0x15, 0x95, 0x55, 0xD5, 0x35, 0xB5, 0x75, 0xF5]
def romRowB : Vector Byte 16 := #v[0x0D, 0x8D, 0x4D, 0xCD, 0x2D, 0xAD, 0x6D, 0xED, 0x1D, 0x9D, 0x5D, 0xDD, 0x3D, 0xBD, 0x7D, 0xFD]
def romRowC : Vector Byte 16 := #v[0x03, 0x83, 0x43, 0xC3, 0x23, 0xA3, 0x63, 0xE3, 0x13, 0x93, 0x53, 0xD3, 0x33, 0xB3, 0x73, 0xF3]
def romRowD : Vector Byte 16 := #v[0x0B, 0x8B, 0x4B, 0xCB, 0x2B, 0xAB, 0x6B, 0xEB, 0x1B, 0x9B, 0x5B, 0xDB, 0x3B, 0xBB, 0x7B, 0xFB]
def romRowE : Vector Byte 16 := #v[0x07, 0x87, 0x47, 0xC7, 0x27, 0xA7, 0x67, 0xE7, 0x17, 0x97, 0x57, 0xD7, 0x37, 0xB7, 0x77, 0xF7]
def romRowF : Vector Byte 16 := #v[0x0F, 0x8F, 0x4F, 0xCF, 0x2F, 0xAF, 0x6F, 0xEF, 0x1F, 0x9F, 0x5F, 0xDF, 0x3F, 0xBF, 0x7F, 0xFF]

/-- The bit-reversal ROM, 256 entries (10_state.md R39): row by the high hex digit, column by the low one
(42_read_primitive.md R144). -/
def rom : Vector (Vector Byte 16) 16 :=
  #v[romRow0, romRow1, romRow2, romRow3, romRow4, romRow5, romRow6, romRow7,
    romRow8, romRow9, romRowA, romRowB, romRowC, romRowD, romRowE, romRowF]

/-- `rev(a) = ROM[a]` (42_read_primitive.md R143): one ROM access (20_memory.md R60), not recorded. -/
def rev (a : Byte) : Byte := getPort (getPort rom (a.extractLsb' 4 4)) (a.extractLsb' 0 4)

end Sys2Proof.Machine
end

