-- ==== Sys2Proof/Machine/Flags.lean ====
section
/-! DEFINITION. The block has no flags, condition codes or predicates (10_state.md R26). What it has instead are the comparisons
internal to IDLECHK and LINETEST, and the residual they report. -/

namespace Sys2Proof.Machine

/-- IDLECHK fails when any observation line reads 1 (43_self_test.md R160, R161). -/
def idleViolation (s : Byte) : Bool := s != 0

/-- LINETEST fails when the whole byte read back differs from the mask (43_self_test.md R163, corner case g). -/
def readbackMismatch (observed mask : Byte) : Bool := observed != mask

/-- The residual is `observed ^ expected` (43_self_test.md R162, 90_conflicts.md C4). -/
def residual (observed mask : Byte) : Byte := observed ^^^ mask

end Sys2Proof.Machine
end

