-- ==== Sys2Proof/Machine/Sequence.lean ====
section
/-! DEFINITION. The contents of the sequence ROM that stand for the source's one entry procedure, as a function of the
configuration (45_post_sequence.md), and the pseudo-instructions it is written in (30_encoding.md R88). -/

namespace Sys2Proof.Machine

/-- `OUTSET` or `OUTCLR` of one line to a level. -/
def levelOf (l : Line) (level : Bool) : Instr :=
  if level then .outset l.port (lineMaskOf l) else .outclr l.port (lineMaskOf l)

/-- OUTHI or OUTLO: the level before the direction (30_encoding.md R88, 41_pin_config.md R132). -/
def outLine (l : Line) (level : Bool) : List Instr := [levelOf l level, .dirset l.port (lineMaskOf l)]

/-- RELALL (30_encoding.md R88). -/
def relall (c : Config) : Instr := .dirclr c.pObs 0xFF

/-- LEDON (30_encoding.md R88). -/
def ledonInstr (c : Config) : Instr := .dirset c.led.port (lineMaskOf c.led)

/-- LEDOFF (30_encoding.md R88). -/
def ledoffInstr (c : Config) : Instr := .dirclr c.led.port (lineMaskOf c.led)

/-- The DELAY word of a configured duration (45_post_sequence.md R205). -/
def delayInstr (d : Duration) : Instr := .delay d.unit (BitVec.ofNat 11 d.count)

/-- Bring-up (45_post_sequence.md R201). -/
def bringUp (c : Config) : List Instr :=
  .dbgoff :: c.vpmapCfg.map (fun kp => .vpmap kp.1 kp.2) ++ [.outclr c.led.port (lineMaskOf c.led)]

/-- Observation-port setup (45_post_sequence.md R202). -/
def observationSetup (c : Config) : List Instr := [.dirclr c.pObs 0xFF, .outset c.pObs 0xFF]

/-- PHY control lines (45_post_sequence.md R203). -/
def phyControl (c : Config) : List Instr :=
  if c.clockedRead then outLine c.phyPen c.phyPenLevel ++ outLine c.phyClk false ++ outLine c.phyOe true else []

/-- PHY data-line pull-ups and inversion (45_post_sequence.md R204). -/
def phyData (c : Config) : List Instr :=
  [0, 1, 2, 3, 4, 5, 6, 7].map (fun pin => .pincfg c.pPhyd pin true c.inputInvert)

/-- Ethernet (45_post_sequence.md R205). -/
def ethernetSetup (c : Config) : List Instr :=
  if c.hasEth then
    outLine c.ethCs true ++ [delayInstr c.tEthSettle] ++ outLine c.ethRst false ++ [delayInstr c.tEthRst] ++
      [levelOf c.ethRst true, delayInstr c.tEthPost] ++ outLine c.ethSck c.ethCpol ++ outLine c.ethMosi false ++
      [.spicfg c.ethBaud c.ethCpol true true]
  else []

/-- Storage (45_post_sequence.md R206). -/
def storageSetup (c : Config) : List Instr :=
  if c.hasStorage then outLine c.storClk false ++ outLine c.storTx true ++ outLine c.storCs true else []

/-- The self-test (45_post_sequence.md R207). -/
def selfTest (c : Config) : List Instr :=
  [.idlechk, relall c] ++ [0, 1, 2, 3, 4, 5, 6, 7].map Instr.linetest ++ [.heartbeat]

/-- The standard sequence (45_post_sequence.md R200). -/
def standardProgram (c : Config) : List Instr :=
  bringUp c ++ observationSetup c ++ phyControl c ++ phyData c ++ ethernetSetup c ++ storageSetup c ++ selfTest c

/-- The words of the standard sequence ROM (10_state.md R40). -/
def standardSequence (c : Config) : List Word := (standardProgram c).map encode

end Sys2Proof.Machine
end

