-- ==== Sys2Proof/Machine/State.lean ====
section
/-! DEFINITION. The state of the block as plain data (10_state.md), the events of its trace (20_memory.md R64), the reasons a
step stops, and the state after reset (R45). -/

namespace Sys2Proof.Machine

/-- MODE (10_state.md R20, R25). -/
inductive Mode where
  | run
  | blink
  | heart
  | halt
deriving DecidableEq, Repr

/-- HALT_CAUSE (10_state.md R20, 60_exceptions.md R224). -/
inductive HaltCause where
  | none
  | illegal
  | overrun
deriving DecidableEq, Repr

/-- The failure code, written only whole (10_state.md R20, 44_signaling.md R180). -/
structure FailCode where
  long : Count
  short : Count
  extra : Count
deriving DecidableEq, Repr, Inhabited

/-- One PINCTRL register (10_state.md R27). -/
structure PinCtrl where
  pullup : Bool
  inven : Bool
deriving DecidableEq, Repr

/-- The Ethernet serial unit's configuration (10_state.md R37). -/
structure EthSpi where
  baud : Byte
  cpol : Bool
  txen : Bool
  rxen : Bool
deriving DecidableEq, Repr

/-- BL_PH and HB_PH: whether the current flash or pulse is lit (10_state.md R42, R43). -/
inductive Phase where
  | on
  | off
deriving DecidableEq, Repr, Inhabited

/-- BL_GROUP (10_state.md R42). -/
inductive BlinkGroup where
  | long
  | gap1
  | short
  | gap2
  | extra
  | endPause
deriving DecidableEq, Repr, Inhabited

/-- The blink encoder's hidden state BL_GROUP, BL_K, BL_PH (10_state.md R42). Log entry 8. -/
structure BlinkPos where
  group : BlinkGroup
  k : Count
  ph : Phase
deriving DecidableEq, Repr, Inhabited

/-- The heartbeat's hidden state HB_CNT, HB_PH (10_state.md R43). Log entry 8. -/
structure HeartPos where
  cnt : BitVec 6
  ph : Phase
deriving DecidableEq, Repr, Inhabited

end Sys2Proof.Machine

namespace Sys2Proof

/-- FREE VALUE: the failure code where none has been written (93 U11; log entry 18). -/
opaque Config.absentCode : Machine.FailCode

/-- FREE VALUE: the blink encoder's position where none has been written (93 U11; log entry 18). -/
opaque Config.absentBlink : Machine.BlinkPos

/-- FREE VALUE: the heartbeat's position where none has been written (93 U11; log entry 18). -/
opaque Config.absentHeart : Machine.HeartPos

end Sys2Proof

namespace Sys2Proof.Machine

/-- One event of the trace (20_memory.md R64). -/
inductive Event where
  | dirW (p : PortNo) (v : Byte)
  | outW (p : PortNo) (v : Byte)
  | ctrlW (p : PortNo) (pin : PinNo) (pu inv : Bool)
  | inR (p : PortNo) (pins v : Byte)
  | keyW (k : Byte)
  | dbgW
  | vpW (k : VPortNo) (p : PortNo)
  | spiW (b : Byte) (c t r : Bool)
  | wait (d : WaitTime)
  | halt (c : HaltCause)
  | reset
deriving DecidableEq, Repr

/-- Everything the spec gives the machine, and three input fields of the model's own (`env`, `draws`, `resetIn`). A
register of type `Option` is absent until a rule writes it, as 10_state.md R21 says (log entry 3). -/
structure State where
  /-- the configuration (00_scope.md R5 to R7); no step changes it (log entry 1) -/
  cfg : Config
  /-- SEQ (10_state.md R40); no step changes it -/
  seq : List Word
  /-- UPC (R24) -/
  upc : BitVec 8
  /-- MODE (R25) -/
  mode : Mode
  /-- OBSV (R20) -/
  obsv : Option Byte
  /-- PHYV (R20) -/
  phyv : Option Byte
  /-- LINE (R20) -/
  line : Option (BitVec 4)
  /-- MASK (R20) -/
  mask : Option Byte
  /-- RESID (R20) -/
  resid : Option Byte
  /-- CODE_L, CODE_S, CODE_E (R20) -/
  code : Option FailCode
  /-- HALT_CAUSE (R20) -/
  haltCause : HaltCause
  /-- HALT_WORD (R20) -/
  haltWord : Option Word
  /-- DIR[p] (R27, R28); slots of ports >= NPORTS are never accessed (log entry 20) -/
  dir : Vector Byte 16
  /-- OUT[p] (R27, R29) -/
  out : Vector Byte 16
  /-- PINCTRL[p][i] (R27, R30, R31) -/
  pinctrl : Vector (Vector PinCtrl 8) 16
  /-- DBG_EN (R35) -/
  dbgEn : Bool
  /-- VPMAP[k] (R36) -/
  vpmap : Vector PortNo 4
  /-- ETH_SPI (R37) -/
  ethSpi : EthSpi
  /-- BL_GROUP, BL_K, BL_PH (R42) -/
  blink : Option BlinkPos
  /-- HB_CNT, HB_PH (R43) -/
  heart : Option HeartPos
  /-- the trace, oldest event first (20_memory.md R64) -/
  trace : List Event
  /-- MODEL'S OWN: the pin levels the environment supplies at the next reads of IN (log entry 4) -/
  env : List Byte
  /-- MODEL'S OWN: how many reads of IN have been made (log entry 4) -/
  draws : Nat
  /-- MODEL'S OWN: the resets still to come, earliest first, each as the number of events between the one before it (or now)
  and its own taking (log entry 5) -/
  resetIn : List Nat
deriving DecidableEq, Repr

/-- A stop with no rule of the spec behind it. -/
inductive Fault where
  /-- Raised by the fetch when UPC is above SEQ_LEN: `SEQ(i)` does not exist there (20_memory.md R60) and 10_state.md R24 gives
  UPC no such value. Safe; unreachable (log entry 11). -/
  | noSuchSequenceWord
deriving DecidableEq, Repr

/-- A run the model does not take up. -/
inductive Refusal where
  /-- Raised by exec's arm of an instruction that has no meaning yet. Safe. No arm raises it. -/
  | notModelled (mnemonic : String)
  /-- Raised by step before anything runs when the sequence ROM is not well formed (40_board_init.md R104, 00_scope.md R8,
  93 U12). Safe (log entry 10). -/
  | sequenceNotWellFormed
deriving DecidableEq, Repr

/-- What a step of this machine answers. -/
abbrev Result := Host.Outcome State Fault Refusal

/-- PINCTRL after reset (10_state.md R45). -/
def PinCtrl.reset : PinCtrl := ⟨false, false⟩

/-- ETH_SPI after reset (10_state.md R37). -/
def EthSpi.reset : EthSpi := ⟨0, false, false, false⟩

/-- A machine of a given configuration and sequence ROM, every register at its reset value (10_state.md R45,
70_reset_and_hazards.md R242), with nothing recorded and no input pending (log entries 4, 5). -/
def State.initial (cfg : Config) (seq : List Word) : State where
  cfg := cfg
  seq := seq
  upc := 0
  mode := .run
  obsv := none
  phyv := none
  line := none
  mask := none
  resid := none
  code := none
  haltCause := .none
  haltWord := none
  dir := Vector.replicate 16 0
  out := Vector.replicate 16 0
  pinctrl := Vector.replicate 16 (Vector.replicate 8 PinCtrl.reset)
  dbgEn := true
  vpmap := Vector.replicate 4 0
  ethSpi := EthSpi.reset
  blink := none
  heart := none
  trace := []
  env := []
  draws := 0
  resetIn := []

/-- The machine right after reset: the reference configuration with its standard sequence (45_post_sequence.md R209, R210;
log entries 1, 2). -/
def State.reset : State := State.initial Config.reference (standardSequence Config.reference)

end Sys2Proof.Machine
end

