-- ==== Sys2Proof/Machine/Ops.lean ====
section
/-! DEFINITION. The named operations over the registers and the trace, entering a failure, and entering a halt. -/

namespace Sys2Proof.Machine

/-! The trace and the micro-program counter. -/

/-- `record E` (00_scope.md R10, 20_memory.md R64). -/
def record (e : Event) (s : State) : State := { s with trace := s.trace ++ [e] }

/-- `Wait(d)` changes no register and records itself (20_memory.md R65). -/
def wait (d : WaitTime) (s : State) : State := record (.wait d) s

/-- `UPC <- UPC + 1` (10_state.md R24). -/
def advance (s : State) : State := { s with upc := s.upc + 1 }

/-! Register writes, each recorded with the register's full new value (20_memory.md R64). -/

/-- `DIR[p] <- v; record DirW(p, v)`. -/
def writeDir (p : PortNo) (v : Byte) (s : State) : State :=
  record (.dirW p v) { s with dir := setPort s.dir p v }

/-- `OUT[p] <- v; record OutW(p, v)`. -/
def writeOut (p : PortNo) (v : Byte) (s : State) : State :=
  record (.outW p v) { s with out := setPort s.out p v }

/-- Both fields of `PINCTRL[p][i]` together (41_pin_config.md R128). -/
def writePinCtrl (p : PortNo) (pin : PinNo) (a v : Bool) (s : State) : State :=
  record (.ctrlW p pin a v)
    { s with pinctrl := setPort s.pinctrl p (setPin (getPort s.pinctrl p) pin ⟨a, v⟩) }

/-- `VPMAP[k] <- p` (40_board_init.md R102). -/
def writeVpmap (k : VPortNo) (p : PortNo) (s : State) : State :=
  record (.vpW k p) { s with vpmap := setVPort s.vpmap k p }

/-- All four fields of `ETH_SPI` (41_pin_config.md R130). -/
def writeEthSpi (b : Byte) (c t r : Bool) (s : State) : State :=
  record (.spiW b c t r) { s with ethSpi := ⟨b, c, t, r⟩ }

/-- The one indivisible pair: the key to IO(KEY), then the target register (40_board_init.md R101, 20_memory.md R63, R68).
IO(KEY) holds no value the spec gives (log entry 22). -/
def disableDebug (s : State) : State :=
  record .dbgW { record (.keyW s.cfg.ccpKey) s with dbgEn := false }

/-- Set the bits of a mask in DIR[p] (41_pin_config.md R120). -/
def setDirBits (p : PortNo) (m : Byte) (s : State) : State := writeDir p (getPort s.dir p ||| m) s

/-- Clear the bits of a mask in DIR[p] (41_pin_config.md R122). -/
def clearDirBits (p : PortNo) (m : Byte) (s : State) : State := writeDir p (getPort s.dir p &&& ~~~m) s

/-- Set the bits of a mask in OUT[p] (41_pin_config.md R124). -/
def setOutBits (p : PortNo) (m : Byte) (s : State) : State := writeOut p (getPort s.out p ||| m) s

/-- Clear the bits of a mask in OUT[p] (41_pin_config.md R126). -/
def clearOutBits (p : PortNo) (m : Byte) (s : State) : State := writeOut p (getPort s.out p &&& ~~~m) s

/-- LedOn (10_state.md R34). -/
def ledOn (s : State) : State := setDirBits s.cfg.led.port (lineMaskOf s.cfg.led) s

/-- LedOff (10_state.md R34). -/
def ledOff (s : State) : State := clearDirBits s.cfg.led.port (lineMaskOf s.cfg.led) s

/-! Reading a port. -/

/-- `invmask(p)[i] = PINCTRL[p][i].INVEN` (10_state.md R33). -/
def invMask (pc : Vector PinCtrl 8) : Byte :=
  BitVec.ofBool (getPin pc 7).inven ++ BitVec.ofBool (getPin pc 6).inven ++ BitVec.ofBool (getPin pc 5).inven ++
    BitVec.ofBool (getPin pc 4).inven ++ BitVec.ofBool (getPin pc 3).inven ++ BitVec.ofBool (getPin pc 2).inven ++
    BitVec.ofBool (getPin pc 1).inven ++ BitVec.ofBool (getPin pc 0).inven

/-- The levels the environment gives the pins of port p at this moment (10_state.md R33): what `env` holds next, else a
free value (93 U6; log entry 4). -/
def pinsNow (p : PortNo) (s : State) : Byte :=
  match s.env with
  | v :: _ => v
  | [] => Config.freePins s.draws p

/-- What a read of `IN[p]` returns now: `pins ^ invmask(p)` (10_state.md R33). -/
def sampled (p : PortNo) (s : State) : Byte := pinsNow p s ^^^ invMask (getPort s.pinctrl p)

/-- The read itself: it uses up one draw and records `InR` (10_state.md R33, 20_memory.md R63, R64). -/
def sample (p : PortNo) (s : State) : State :=
  record (.inR p (pinsNow p s) (sampled p s)) { s with env := s.env.tail, draws := s.draws + 1 }

/-! What is seen from outside the block. -/

/-- How many events other than Halt stand in a trace: the point of a run at which the two free views below are taken. A halt is
no new point, so it changes neither (60_exceptions.md R224, "the LED keeps whatever state it had"). -/
def liveEvents : List Event → Nat
  | [] => 0
  | .halt _ :: rest => liveEvents rest
  | _ :: rest => liveEvents rest + 1

/-- The level pin i of port p drives: `OUT[p][i]` when `DIR[p][i] = 1`, nothing when it is 0 (10_state.md R28, R29); a
free value when the pin's INVEN is 1 (R31, 93 U5; log entry 14). -/
def driven (s : State) (p : PortNo) (pin : PinNo) : Option Bool :=
  if (getPort s.dir p).getLsbD pin.toNat then
    if (getPin (getPort s.pinctrl p) pin).inven then some (Config.invertedDrive (liveEvents s.trace) p pin)
    else some ((getPort s.out p).getLsbD pin.toNat)
  else none

/-- Whether the indicator is lit: dark when its DIR bit is 0, lit when its DIR bit is 1 and its OUT bit 0 (10_state.md R34,
whose ground is the cleared OUT bit), and a free value when both are 1, where R34 "would no longer hold"
(70_reset_and_hazards.md R248; log entry 25). -/
def ledLit (s : State) : Bool :=
  if (getPort s.dir s.cfg.led.port).getLsbD s.cfg.led.pin.toNat then
    if (getPort s.out s.cfg.led.port).getLsbD s.cfg.led.pin.toNat then
      Config.indicatorDrivenHigh (liveEvents s.trace)
    else true
  else false

/-! The exceptions. There is no return from either: only reset leaves a terminal state (60_exceptions.md R228). -/

/-- `raise Fail(l, s, e)`: the code is written, MODE becomes BLINK, UPC and every port register stay (44_signaling.md
R180), and the blink loop starts at its long group with no flash done (R181; log entry 8). -/
def raiseFail (l sc e : Count) (s : State) : State :=
  { s with code := some ⟨l, sc, e⟩, mode := .blink, blink := some ⟨.long, 0, .off⟩ }

/-- `raise Halt(cause)`: HALT_CAUSE, MODE and the event; UPC and every port register stay (60_exceptions.md R224). -/
def raiseHalt (cause : HaltCause) (s : State) : State :=
  record (.halt cause) { s with haltCause := cause, mode := .halt }

/-- Executing an ILLEGAL word: `HALT_WORD <- w` and Halt(ILLEGAL) (30_encoding.md R84, 60_exceptions.md R224). -/
def haltIllegal (w : Word) (s : State) : State := raiseHalt .illegal { s with haltWord := some w }

/-- The decode check comes before anything else a micro-op does (60_exceptions.md R223): operands the decoder would reject
halt as the word that carries them (log entry 7); otherwise the effect `t`. -/
def legalOrHalt (i : Instr) (s t : State) : Result :=
  if i.wf s.cfg.nports then .next t else .next (haltIllegal (encode i) s)

end Sys2Proof.Machine
end

