-- ==== Sys2Proof/Machine/Boot.lean ====
section
/-! DEFINITION. What is fixed before reset is released (70_reset_and_hazards.md R243): the configurations 00_scope.md R6 and R7
describe, and the well-formed sequence ROM without which a machine is refused (40_board_init.md R104). -/

namespace Sys2Proof.Machine

/-- The single lines a board uses: the indicator, and the lines of each peripheral whose flag is set (00_scope.md R7). -/
def usedLines (c : Config) : List Line :=
  [c.led] ++ (if c.clockedRead then [c.phyPen, c.phyClk, c.phyOe] else []) ++
    (if c.hasEth then [c.ethCs, c.ethSck, c.ethMosi, c.ethMiso, c.ethRst] else []) ++
    (if c.hasStorage then [c.storClk, c.storTx, c.storCs] else [])

/-- A used single line lies on a port that exists and is neither bus under test (00_scope.md R7). -/
def lineOk (c : Config) (l : Line) : Bool :=
  portExists c.nports l.port && l.port != c.pObs && l.port != c.pPhyd

/-- No value occurs twice in a list. -/
def distinct {α : Type} [DecidableEq α] : List α → Bool
  | [] => true
  | x :: rest => !rest.contains x && distinct rest

/-- The ports of the two buses and of every used line (00_scope.md R7). -/
def portsOk (c : Config) : Bool :=
  decide (1 ≤ c.nports) && decide (c.nports ≤ 16) && portExists c.nports c.pObs && portExists c.nports c.pPhyd &&
    c.pObs != c.pPhyd && (usedLines c).all (lineOk c) && distinct (usedLines c)

/-- VPMAP_CFG: at most four pairs, distinct virtual ports, ports that exist (45_post_sequence.md R201, 10_state.md R38). -/
def vpmapOk (c : Config) : Bool :=
  decide (c.vpmapCfg.length ≤ 4) && distinct (c.vpmapCfg.map Prod.fst) &&
    c.vpmapCfg.all (fun kp => portExists c.nports kp.2)

/-- The Ethernet delays fit one DELAY word each (30_encoding.md R82, 45_post_sequence.md R205), and HB_TOP is a value of the
six-bit HB_CNT (10_state.md R43). Log entry 19. -/
def timesOk (c : Config) : Bool :=
  decide (c.tEthSettle.count ≤ 2047) && decide (c.tEthRst.count ≤ 2047) && decide (c.tEthPost.count ≤ 2047) &&
    decide (c.hbTop ≤ 63)

/-- A configuration the spec describes. No step asks for it: a claim about such boards alone takes it as a premise (92 D6;
log entry 19). -/
def configOk (c : Config) : Bool := portsOk c && vpmapOk c && timesOk c

/-- A sequence of 1 to 255 words (00_scope.md R8) with DBGOFF nowhere but at index 0 (40_board_init.md R104). -/
def sequenceOk (seq : List Word) : Bool :=
  decide (1 ≤ seq.length) && decide (seq.length ≤ 255) && !seq.tail.contains (encode .dbgoff)

/-- Why a machine is refused before it runs: "A model refuses a sequence that is not well-formed before running it"
(40_board_init.md R104; log entry 10). -/
def bootRefusal (s : State) : Option Refusal :=
  if sequenceOk s.seq then none else some .sequenceNotWellFormed

end Sys2Proof.Machine
end

