-- ==== Sys2Proof/Machine/BoardInit.lean ====
section
/-! DEFINITION. The board bring-up micro-ops (40_board_init.md) and the reserved opcode (30_encoding.md R84). -/

namespace Sys2Proof.Machine

/-- NOP (40_board_init.md R100). -/
def execNop (s : State) : Result := .next (advance s)

/-- DBGOFF (40_board_init.md R101). -/
def execDbgoff (s : State) : Result := .next (advance (disableDebug s))

/-- VPMAP k, p (40_board_init.md R102). -/
def execVpmap (k : VPortNo) (p : PortNo) (s : State) : Result :=
  legalOrHalt (.vpmap k p) s (advance (writeVpmap k p s))

/-- DELAY n, u (40_board_init.md R103). -/
def execDelay (u : TimeUnit) (n : BitVec 11) (s : State) : Result := .next (advance (wait (delayTime u n) s))

/-- The reserved opcode: Halt(ILLEGAL) with the word itself (30_encoding.md R83, R84). -/
def execReserved (x : BitVec 12) (s : State) : Result := .next (haltIllegal (encode (.reserved x)) s)

end Sys2Proof.Machine
end

