-- ==== Sys2Proof/Machine/PinConfig.lean ====
section
/-! DEFINITION. The pin-configuration micro-ops (41_pin_config.md). -/

namespace Sys2Proof.Machine

/-- DIRSET p, m (41_pin_config.md R120). -/
def execDirset (p : PortNo) (m : Byte) (s : State) : Result :=
  legalOrHalt (.dirset p m) s (advance (setDirBits p m s))

/-- DIRCLR p, m (41_pin_config.md R122). -/
def execDirclr (p : PortNo) (m : Byte) (s : State) : Result :=
  legalOrHalt (.dirclr p m) s (advance (clearDirBits p m s))

/-- OUTSET p, m (41_pin_config.md R124). -/
def execOutset (p : PortNo) (m : Byte) (s : State) : Result :=
  legalOrHalt (.outset p m) s (advance (setOutBits p m s))

/-- OUTCLR p, m (41_pin_config.md R126). -/
def execOutclr (p : PortNo) (m : Byte) (s : State) : Result :=
  legalOrHalt (.outclr p m) s (advance (clearOutBits p m s))

/-- PINCFG p, i, a, v (41_pin_config.md R128). -/
def execPincfg (p : PortNo) (pin : PinNo) (a v : Bool) (s : State) : Result :=
  legalOrHalt (.pincfg p pin a v) s (advance (writePinCtrl p pin a v s))

/-- SPICFG b, c, t, r; legal whether or not the board has the peripheral, and it starts no transfer (41_pin_config.md R130). -/
def execSpicfg (b : Byte) (c t r : Bool) (s : State) : Result := .next (advance (writeEthSpi b c t r s))

end Sys2Proof.Machine
end

