-- ==== Sys2Proof/Machine/ReadPrimitive.lean ====
section
/-! DEFINITION. The read primitive and RDPHY (42_read_primitive.md). -/

namespace Sys2Proof.Machine

/-- Before the sample: clock rises, enable asserted (low), clock falls, on a board with the clocked-read protocol
(42_read_primitive.md R140). -/
def phyEnable (s : State) : State :=
  if s.cfg.clockedRead then
    clearOutBits s.cfg.phyClk.port (lineMaskOf s.cfg.phyClk)
      (clearOutBits s.cfg.phyOe.port (lineMaskOf s.cfg.phyOe)
        (setOutBits s.cfg.phyClk.port (lineMaskOf s.cfg.phyClk) s))
  else s

/-- After the sample: enable deasserted (high) (42_read_primitive.md R140). -/
def phyDisable (s : State) : State :=
  if s.cfg.clockedRead then setOutBits s.cfg.phyOe.port (lineMaskOf s.cfg.phyOe) s else s

/-- The bit reversal of a sampled byte, on a board wired in reversed bit order (42_read_primitive.md R140). -/
def reorder (c : Config) (v : Byte) : Byte := if c.bitReverse then rev v else v

/-- `ReadPHY()`: the value returned and the state after its events (42_read_primitive.md R140, R141). -/
def readPhy (s : State) : Byte × State :=
  (reorder s.cfg (sampled s.cfg.pPhyd (phyEnable s)), phyDisable (sample s.cfg.pPhyd (phyEnable s)))

/-- RDPHY (42_read_primitive.md R146). -/
def execRdphy (s : State) : Result :=
  .next (advance { (readPhy s).2 with phyv := some (readPhy s).1 })

end Sys2Proof.Machine
end

