-- ==== Sys2Proof/Machine/SelfTest.lean ====
section
/-! DEFINITION. The self-test micro-ops (43_self_test.md). -/

namespace Sys2Proof.Machine

/-- The observation port read and kept in OBSV (43_self_test.md R160, R163). -/
def observe (s : State) : State := { sample s.cfg.pObs s with obsv := some (sampled s.cfg.pObs s) }

/-- IDLECHK (43_self_test.md R160): only the lowest set bit is reported (R161). -/
def execIdlechk (s : State) : Result :=
  if idleViolation (sampled s.cfg.pObs s) then .next (raiseFail 1 (lsbenc (sampled s.cfg.pObs s)) 0 (observe s))
  else .next (advance (observe s))

/-- LINETEST n up to its first read: LINE and MASK, the drive, the settling wait (43_self_test.md R163). -/
def driveLine (n : BitVec 3) (s : State) : State :=
  wait (.span s.cfg.tSettle)
    (setDirBits s.cfg.pObs (lineMask n) { s with line := some (lineNumber n), mask := some (lineMask n) })

/-- A short: the residual is kept and reported (43_self_test.md R162, R163). -/
def raiseShort (family : Count) (n : BitVec 3) (seen : Byte) (s : State) : State :=
  raiseFail family (lineNumber n) (lsbenc (residual seen (lineMask n)))
    { s with resid := some (residual seen (lineMask n)) }

/-- The input bus read and kept in PHYV (43_self_test.md R163). -/
def readBus (s : State) : State := { (readPhy s).2 with phyv := some (readPhy s).1 }

/-- The input-bus check of LINETEST and the release of the line (43_self_test.md R163). -/
def checkBus (n : BitVec 3) (s : State) : Result :=
  if readbackMismatch (readPhy s).1 (lineMask n) then .next (raiseShort 3 n (readPhy s).1 (readBus s))
  else .next (advance (clearDirBits s.cfg.pObs (lineMask n) (readBus s)))

/-- LINETEST n (43_self_test.md R163): on a failure the driven line stays driven (corner case e). -/
def execLinetest (n : BitVec 3) (s : State) : Result :=
  if readbackMismatch (sampled s.cfg.pObs (driveLine n s)) (lineMask n) then
    .next (raiseShort 2 n (sampled s.cfg.pObs (driveLine n s)) (observe (driveLine n s)))
  else checkBus n (observe (driveLine n s))

end Sys2Proof.Machine
end

