-- ==== Sys2Proof/Machine/Signaling.lean ====
section
/-! DEFINITION. The failure signaler and the heartbeat (44_signaling.md): the micro-ops that enter them and one step of each
loop. A step of a loop is one lit or dark part of a flash or pulse, or one pause (log entry 8). -/

namespace Sys2Proof.Machine

/-- FAIL l, s, e (44_signaling.md R182). -/
def execFail (l sc e : Count) (s : State) : Result := legalOrHalt (.fail l sc e) s (raiseFail l sc e s)

/-- HEARTBEAT (44_signaling.md R190). -/
def execHeartbeat (s : State) : Result := .next { s with mode := .heart, heart := some ⟨0, .off⟩ }

/-! The blink loop (44_signaling.md R181). -/

/-- How many flashes a group makes. -/
def flashCount (c : FailCode) : BlinkGroup → Count
  | .long => c.long
  | .short => c.short
  | .extra => c.extra
  | .gap1 => 0
  | .gap2 => 0
  | .endPause => 0

/-- The lit time of a flash: the short group is fast, the others slow. -/
def flashOn (c : Config) : BlinkGroup → Duration
  | .short => c.tFastOn
  | .long => c.tSlowOn
  | .extra => c.tSlowOn
  | .gap1 => c.tSlowOn
  | .gap2 => c.tSlowOn
  | .endPause => c.tSlowOn

/-- The dark time of a flash. -/
def flashOff (c : Config) : BlinkGroup → Duration
  | .short => c.tFastOff
  | .long => c.tSlowOff
  | .extra => c.tSlowOff
  | .gap1 => c.tSlowOff
  | .gap2 => c.tSlowOff
  | .endPause => c.tSlowOff

/-- The pause that follows a group's last flash. -/
def pauseAfter : BlinkGroup → BlinkGroup
  | .long => .gap1
  | .short => .gap2
  | .extra => .endPause
  | .gap1 => .gap1
  | .gap2 => .gap2
  | .endPause => .endPause

/-- How long a pause lasts: END is the long one. -/
def pauseTime (c : Config) : BlinkGroup → Duration
  | .endPause => c.tEnd
  | .gap1 => c.tGap
  | .gap2 => c.tGap
  | .long => c.tGap
  | .short => c.tGap
  | .extra => c.tGap

/-- Between two flashes: the flash group the loop stands in, and how many of its flashes are done. A pause is followed by
the next group, END by the long group of the next period. -/
def blinkHead (b : BlinkPos) : BlinkGroup × Count :=
  match b.group with
  | .gap1 => (.short, 0)
  | .gap2 => (.extra, 0)
  | .endPause => (.long, 0)
  | .long => (.long, b.k)
  | .short => (.short, b.k)
  | .extra => (.extra, b.k)

/-- The next part of the blink loop (44_signaling.md R181): a lit flash goes dark; else the group's next flash is lit; else
the pause after the group. -/
def blinkPart (c : FailCode) (b : BlinkPos) (s : State) : State :=
  match b.ph with
  | .on => { wait (.span (flashOff s.cfg b.group)) (ledOff s) with blink := some ⟨b.group, b.k + 1, .off⟩ }
  | .off =>
    if (blinkHead b).2.toNat < (flashCount c (blinkHead b).1).toNat then
      { wait (.span (flashOn s.cfg (blinkHead b).1)) (ledOn s) with
        blink := some ⟨(blinkHead b).1, (blinkHead b).2, .on⟩ }
    else
      { wait (.span (pauseTime s.cfg (pauseAfter (blinkHead b).1))) s with
        blink := some ⟨pauseAfter (blinkHead b).1, 0, .off⟩ }

/-- One step in BLINK (10_state.md R25). Entry to BLINK writes the code and the position (44_signaling.md R180, R181); where a
state holds none, each is a free value (log entry 18). -/
def blinkStep (s : State) : Result :=
  .next (blinkPart (s.code.getD Config.absentCode) (s.blink.getD Config.absentBlink) s)

/-! The heartbeat loop (44_signaling.md R191). -/

/-- The lit part of a pulse in units of HB_UNIT: the ramp mirrored above HB_MID (44_signaling.md R191, R192). -/
def heartDuty (c : Config) (cnt : BitVec 6) : Nat :=
  if cnt.toNat ≤ c.hbMid then cnt.toNat else c.hbTop - cnt.toNat

/-- The counter after a pulse: it wraps when the increment gives HB_TOP + 1 (44_signaling.md R191, 90_conflicts.md C5). -/
def heartNext (c : Config) (cnt : BitVec 6) : BitVec 6 :=
  if cnt.toNat + 1 = c.hbTop + 1 then 0 else cnt + 1

/-- The next part of the heartbeat loop: a dark line is lit for the duty, a lit line goes dark for the rest of the period and
the counter moves on. LedOn and LedOff are issued for a duty of 0 too. -/
def heartPart (h : HeartPos) (s : State) : State :=
  match h.ph with
  | .off => { wait (.heartUnits (heartDuty s.cfg h.cnt)) (ledOn s) with heart := some ⟨h.cnt, .on⟩ }
  | .on =>
    { wait (.heartUnits (s.cfg.hbTop - heartDuty s.cfg h.cnt)) (ledOff s) with
      heart := some ⟨heartNext s.cfg h.cnt, .off⟩ }

/-- One step in HEART (10_state.md R25). Entry to HEART writes the position (44_signaling.md R190); where a state holds none it
is a free value (log entry 18). -/
def heartStep (s : State) : Result := .next (heartPart (s.heart.getD Config.absentHeart) s)

end Sys2Proof.Machine
end

