-- ==== Sys2Proof/Machine/Dispatch.lean ====
section
/-! DEFINITION. exec: one arm per micro-op, each one call of its meaning. -/

namespace Sys2Proof.Machine

def exec (i : Instr) (s : State) : Host.Outcome State Fault Refusal :=
  match i with
  | .nop => Sys2Proof.Machine.execNop s
  | .dbgoff => Sys2Proof.Machine.execDbgoff s
  | .vpmap k p => Sys2Proof.Machine.execVpmap k p s
  | .dirset p m => Sys2Proof.Machine.execDirset p m s
  | .dirclr p m => Sys2Proof.Machine.execDirclr p m s
  | .outset p m => Sys2Proof.Machine.execOutset p m s
  | .outclr p m => Sys2Proof.Machine.execOutclr p m s
  | .pincfg p pin a v => Sys2Proof.Machine.execPincfg p pin a v s
  | .delay u n => Sys2Proof.Machine.execDelay u n s
  | .spicfg b c t r => Sys2Proof.Machine.execSpicfg b c t r s
  | .rdphy => Sys2Proof.Machine.execRdphy s
  | .idlechk => Sys2Proof.Machine.execIdlechk s
  | .linetest n => Sys2Proof.Machine.execLinetest n s
  | .fail l sc e => Sys2Proof.Machine.execFail l sc e s
  | .heartbeat => Sys2Proof.Machine.execHeartbeat s
  | .reserved x => Sys2Proof.Machine.execReserved x s

end Sys2Proof.Machine
end

