-- ==== Sys2Proof/Machine/Fetch.lean ====
section
/-! DEFINITION. Fetch (10_state.md R24) and the placing of a word where the next fetch reads it. -/

namespace Sys2Proof.Machine

/-- What a fetch finds. -/
inductive Fetched where
  | word (w : Word)
  | overrun
  | nothing
deriving DecidableEq, Repr

/-- `SEQ[UPC]`, or the overrun at `UPC = SEQ_LEN` (10_state.md R24). Above SEQ_LEN there is no word (log entry 11). -/
def fetch (s : State) : Fetched :=
  match s.seq[s.upc.toNat]? with
  | some w => .word w
  | none => if s.upc.toNat = s.seq.length then .overrun else .nothing

/-- The index at which a word to be run next is placed: UPC; index 0 for DBGOFF, which may stand nowhere else
(40_board_init.md R104), and for UPC = 255, which no word has (00_scope.md R8). -/
def fetchSlot (w : Word) (s : State) : Nat := if w = encode .dbgoff ∨ s.upc = 255 then 0 else s.upc.toNat

/-- The sequence with one word replaced; words missing below it are NOP. -/
def placeWord (seq : List Word) (slot : Nat) (w : Word) : List Word :=
  seq.take slot ++ List.replicate (slot - seq.length) (encode .nop) ++ [w] ++ seq.drop (slot + 1)

/-- The machine in RUN with the word at the slot it fetches from, and no reset input pending (log entry 2). -/
def withWord (w : Word) (s : State) : State :=
  { s with
    seq := placeWord s.seq (fetchSlot w s) w
    upc := BitVec.ofNat 8 (fetchSlot w s)
    mode := .run
    resetIn := [] }

end Sys2Proof.Machine
end

