-- ==== Sys2Proof/Machine/ResetInput.lean ====
section
/-! DEFINITION. Taking the reset input (70_reset_and_hazards.md R240, R242). -/

namespace Sys2Proof.Machine

/-- The reads of IN among a list of events. -/
def readsIn : List Event → Nat
  | [] => 0
  | .inR _ _ _ :: rest => readsIn rest + 1
  | _ :: rest => readsIn rest

/-- Reset taken after the events `done` of the step in progress: those events and `Reset` are recorded, the rest of the step
is abandoned, and every register takes its reset value; the configuration and the sequence ROM stay
(70_reset_and_hazards.md R240, R242). The environment keeps the levels it has not yet supplied and the resets still to come
(log entry 5). -/
def takeReset (done : List Event) (s : State) : State :=
  { State.initial s.cfg s.seq with
    trace := s.trace ++ done ++ [.reset]
    env := s.env.drop (readsIn done)
    draws := s.draws + readsIn done
    resetIn := s.resetIn.tail }

/-- The events a step recorded. -/
def newEvents (s t : State) : List Event := t.trace.drop s.trace.length

/-- A step under the reset input: the next reset, due after k events, is taken at once when k is 0, and inside the step when
the step records more than k events; else the step stands and its events count off. After one reset the next counts from
there (70_reset_and_hazards.md R240; log entry 5). -/
def underReset (s : State) (r : Result) : Result :=
  match s.resetIn with
  | [] => r
  | 0 :: _ => .next (takeReset [] s)
  | (k + 1) :: rest =>
    match r with
    | .next t =>
      if k + 1 < (newEvents s t).length then .next (takeReset ((newEvents s t).take (k + 1)) s)
      else .next { t with resetIn := (k + 1 - (newEvents s t).length) :: rest }
    | .fault f => .fault f
    | .refused f => .refused f

end Sys2Proof.Machine
end

