-- ==== Sys2Proof/Machine/Step.lean ====
section
/-! DEFINITION. One step of the machine (10_state.md R24, R25), under the boot refusal and the reset input. -/

namespace Sys2Proof.Machine

/-- One step in RUN: fetch, decode, perform; an ILLEGAL word and the overrun halt (10_state.md R24, 30_encoding.md R84). -/
def runStep (s : State) : Result :=
  match fetch s with
  | .word w =>
    match decode s.cfg.nports w with
    | .ok i => exec i s
    | .error _ => .next (haltIllegal w s)
  | .overrun => .next (raiseHalt .overrun s)
  | .nothing => .fault .noSuchSequenceWord

/-- What MODE selects (10_state.md R25). In HALT nothing happens (93 U17; log entry 9). -/
def modeStep (s : State) : Result :=
  match s.mode with
  | .run => runStep s
  | .blink => blinkStep s
  | .heart => heartStep s
  | .halt => .next s

/-- One step of the machine: nothing runs with a sequence that is refused; else the step MODE selects, under the
reset input (40_board_init.md R104, 70_reset_and_hazards.md R240). -/
def step (s : State) : Host.Outcome State Fault Refusal :=
  match bootRefusal s with
  | some r => .refused r
  | none => underReset s (modeStep s)

/-- The state with the table's word placed where the next step fetches it (log entry 2). -/
def State.withFetchWord (s : State) (nbits w : Nat) : State := withWord (BitVec.ofNat 16 (w % 2 ^ nbits)) s

end Sys2Proof.Machine
end

