-- ==== Sys2Proof/Safety.lean ====
section
/-! DEFINITION. What counts as a good, a failed and a stopped run, the invariant of the machine, and the terms other claims
use: the trace read back into registers, the ideal board, the periods of the two terminal loops. -/

namespace Sys2Proof.Safety

open Sys2Proof.Machine

/-! How a run ends (10_state.md R25, 60_exceptions.md R224). -/

/-- The self-test passed: the heartbeat runs. -/
def passed (s : State) : Bool := s.mode == .heart

/-- A failure is being signaled. -/
def signaling (s : State) : Bool := s.mode == .blink

/-- The sequencer stopped: no claim of completion holds (60_exceptions.md R224). -/
def halted (s : State) : Bool := s.mode == .halt

/-- A run that has not left the source's own behaviours: it never halted. -/
def safe (s : State) : Bool := !halted s

/-! The invariant. -/

/-- What holds of every state a machine reaches: the legal values of 10_state.md R20, R38, R42 and R43, the registers each
terminal state writes (60_exceptions.md R220), and a board and a sequence that may run (70_reset_and_hazards.md R243). -/
structure Inv (s : State) : Prop where
  /-- 00_scope.md R7 -/
  config : configOk s.cfg = true
  /-- 40_board_init.md R104, 00_scope.md R8 -/
  sequence : sequenceOk s.seq = true
  /-- UPC is in 0..SEQ_LEN (10_state.md R20) -/
  upcInRange : s.upc.toNat ≤ s.seq.length
  /-- the counts are in 0..9 (10_state.md R20) -/
  codeInRange : ∀ c, s.code = some c → c.long.toNat ≤ 9 ∧ c.short.toNat ≤ 9 ∧ c.extra.toNat ≤ 9
  /-- the code and the encoder's position are written together (44_signaling.md R180) -/
  codeWithBlink : s.code.isSome = s.blink.isSome
  /-- the position stays inside the group, and a lit flash is not yet done (44_signaling.md R181) -/
  blinkInRange : ∀ c b, s.code = some c → s.blink = some b →
    b.k.toNat ≤ (flashCount c b.group).toNat ∧ (b.ph = .on → b.k.toNat < (flashCount c b.group).toNat)
  /-- BLINK has a code (44_signaling.md R180) -/
  blinkHasCode : s.mode = .blink → s.code.isSome
  /-- HEART has a counter (44_signaling.md R190) -/
  heartHasCounter : s.mode = .heart → s.heart.isSome
  /-- HB_CNT is in 0..HB_TOP (10_state.md R43) -/
  heartInRange : ∀ h, s.heart = some h → h.cnt.toNat ≤ s.cfg.hbTop
  /-- HALT has a cause, and only HALT has one (60_exceptions.md R224) -/
  haltHasCause : s.mode = .halt ↔ s.haltCause ≠ .none
  /-- HALT_WORD is written for the cause ILLEGAL alone (60_exceptions.md R224) -/
  haltWordIllegal : s.haltWord.isSome ↔ s.haltCause = .illegal
  /-- LINE is in 1..8 and MASK is its one bit (10_state.md R20, 00_scope.md R11) -/
  lineWithMask : (s.line = none ∧ s.mask = none) ∨
    ∃ n : BitVec 3, s.line = some (lineNumber n) ∧ s.mask = some (lineMask n)
  /-- a residual is kept only on a mismatch (43_self_test.md R162) -/
  residNonzero : s.resid ≠ some 0
  /-- ports that do not exist are never written (20_memory.md R60) -/
  portsBeyond : ∀ p : PortNo, s.cfg.nports ≤ p.toNat →
    getPort s.dir p = 0 ∧ getPort s.out p = 0 ∧ getPort s.pinctrl p = Vector.replicate 8 PinCtrl.reset
  /-- a virtual port names a port that exists (10_state.md R38) -/
  vpmapInRange : ∀ k : VPortNo, (getVPort s.vpmap k).toNat < s.cfg.nports

/-! The protected write (20_memory.md R63, 60_exceptions.md R230). -/

/-- Every write that disables debug access comes directly after a write of the key. -/
def KeyGuarded (s : State) : Prop :=
  ∀ before after, s.trace = before ++ Event.dbgW :: after → ∃ first, before = first ++ [.keyW s.cfg.ccpKey]

/-! The trace read back (20_memory.md R64): each write event says what its register now holds. -/

/-- The registers the trace tells of. -/
structure PortImage where
  dir : Vector Byte 16
  out : Vector Byte 16
  pinctrl : Vector (Vector PinCtrl 8) 16
  dbgEn : Bool
  vpmap : Vector PortNo 4
  ethSpi : EthSpi
deriving DecidableEq, Repr

/-- The registers a state holds. -/
def imageOf (s : State) : PortImage := ⟨s.dir, s.out, s.pinctrl, s.dbgEn, s.vpmap, s.ethSpi⟩

/-- The registers after reset (10_state.md R45). -/
def resetImage : PortImage := imageOf State.reset

/-- What an event says of the registers (20_memory.md R64, "now holds"). -/
def applyEvent (m : PortImage) : Event → PortImage
  | .dirW p v => { m with dir := setPort m.dir p v }
  | .outW p v => { m with out := setPort m.out p v }
  | .ctrlW p pin a v => { m with pinctrl := setPort m.pinctrl p (setPin (getPort m.pinctrl p) pin ⟨a, v⟩) }
  | .inR _ _ _ => m
  | .keyW _ => m
  | .dbgW => { m with dbgEn := false }
  | .vpW k p => { m with vpmap := setVPort m.vpmap k p }
  | .spiW b c t r => { m with ethSpi := ⟨b, c, t, r⟩ }
  | .wait _ => m
  | .halt _ => m
  | .reset => resetImage

/-- The registers a whole trace tells of. -/
def replay (t : List Event) : PortImage := t.foldl applyEvent resetImage

/-- The trace alone gives every port and system register. -/
def TraceTells (s : State) : Prop := replay s.trace = imageOf s

/-! ILLEGAL words, written from the format table and apart from the decoder (30_encoding.md R81, R84). -/

/-- The opcode of a word (30_encoding.md R80). -/
def opcodeOf (w : Word) : Nat := w.toNat / 4096

/-- The must-be-zero bits of the format an opcode uses (30_encoding.md R81). -/
def mustBeZero : Nat → Word
  | 0x0 => 0x0FFF
  | 0x1 => 0x0FFF
  | 0x2 => 0x0FC0
  | 0x7 => 0x0007
  | 0x9 => 0x0800
  | 0xA => 0x0FFF
  | 0xB => 0x0FFF
  | 0xC => 0x0FF8
  | 0xE => 0x0FFF
  | _ => 0x0000

/-- The port number of a word of format V, PM or PC; none for the other formats (30_encoding.md R81). -/
def portFieldOf (w : Word) : Option Nat :=
  if opcodeOf w = 2 then some (w.toNat % 16)
  else if 3 ≤ opcodeOf w ∧ opcodeOf w ≤ 7 then some (w.toNat / 256 % 16)
  else none

/-- The four conditions of 30_encoding.md R84. -/
def IllegalWord (nports : Nat) (w : Word) : Prop :=
  opcodeOf w = 15 ∨ w &&& mustBeZero (opcodeOf w) ≠ 0 ∨ (∃ p, portFieldOf w = some p ∧ nports ≤ p) ∨
    (opcodeOf w = 13 ∧ (9 < w.toNat / 256 % 16 ∨ 9 < w.toNat / 16 % 16 ∨ 9 < w.toNat % 16))

/-! What no rule reads (10_state.md R20 "observation only", R30, R36, R38). -/

/-- The registers no step reads, blanked: the observation registers, HALT_CAUSE and HALT_WORD, DBG_EN, VPMAP, ETH_SPI and
every PULLUP bit. -/
def forget (s : State) : State :=
  { s with
    obsv := none
    phyv := none
    line := none
    mask := none
    resid := none
    haltCause := .none
    haltWord := none
    dbgEn := true
    vpmap := Vector.replicate 4 0
    ethSpi := EthSpi.reset
    pinctrl := s.pinctrl.map (fun port => port.map (fun pin => ⟨false, pin.inven⟩)) }

/-- An outcome with those registers blanked. -/
def forgetResult : Result → Result
  | .next t => .next (forget t)
  | .fault f => .fault f
  | .refused r => .refused r

/-! The ideal board (92_eei_decisions.md D38): an assumption of the claims that name it, never of the machine. -/

/-- The pin levels of port p on the ideal board (92 D38; log entry 24). -/
def idealPins (s : State) (p : PortNo) : Byte :=
  if p = s.cfg.pObs then getPort s.dir s.cfg.pObs &&& getPort s.out s.cfg.pObs
  else if p = s.cfg.pPhyd then
    reorder s.cfg (getPort s.dir s.cfg.pObs &&& getPort s.out s.cfg.pObs) ^^^ invMask (getPort s.pinctrl s.cfg.pPhyd)
  else 0

/-! One period of the blink loop (44_signaling.md R181, R183) and of the heartbeat's ramp (R191, R192). -/

/-- Some flashes of one rate, on a port whose direction register holds v apart from the indicator's bit. -/
def flashes (c : Config) (v : Byte) (n : Nat) (on off : Duration) : List Event :=
  (List.replicate n
    [Event.dirW c.led.port (v ||| lineMaskOf c.led), .wait (.span on),
      .dirW c.led.port (v &&& ~~~lineMaskOf c.led), .wait (.span off)]).flatten

/-- The events of one period for a code (44_signaling.md R181). -/
def blinkPeriod (c : Config) (v : Byte) (code : FailCode) : List Event :=
  flashes c v code.long.toNat c.tSlowOn c.tSlowOff ++ [.wait (.span c.tGap)] ++
    flashes c v code.short.toNat c.tFastOn c.tFastOff ++ [.wait (.span c.tGap)] ++
    flashes c v code.extra.toNat c.tSlowOn c.tSlowOff ++ [.wait (.span c.tEnd)]

/-- How many flashes a period makes. -/
def flashTotal (code : FailCode) : Nat := code.long.toNat + code.short.toNat + code.extra.toNat

/-- The events of the pulse of one counter value, its lit part lasting d units (44_signaling.md R191). -/
def pulse (c : Config) (v : Byte) (d : Nat) : List Event :=
  [.dirW c.led.port (v ||| lineMaskOf c.led), .wait (.heartUnits d),
    .dirW c.led.port (v &&& ~~~lineMaskOf c.led), .wait (.heartUnits (c.hbTop - d))]

/-- The duty of a counter value, mirrored above HB_MID (44_signaling.md R191). -/
def rampDuty (c : Config) (n : Nat) : Nat := if n ≤ c.hbMid then n else c.hbTop - n

/-- The events of one ramp, counter values 0 to HB_TOP (44_signaling.md R192). -/
def heartRamp (c : Config) (v : Byte) : List Event :=
  ((List.range (c.hbTop + 1)).map (fun n => pulse c v (rampDuty c n))).flatten

/-- The nominal length in µs of the waits among some events. -/
def waitTotal (c : Config) : List Event → Nat
  | [] => 0
  | .wait d :: rest => waitMicros c d + waitTotal c rest
  | _ :: rest => waitTotal c rest

end Sys2Proof.Safety
end

