-- ==== Sys2Proof/Certificates/Slice0/Obligations.lean ====
section
/-! DEFINITION. The statements for the provers, each formalising rules of spec/. A statement whose conclusion gives the next
state as one record update says the frame with it: every field the update does not name is unchanged. -/

open Sys2Proof Sys2Proof.Machine Sys2Proof.Safety

/-! Encoding. -/

/-- Decoding the word of a well-formed micro-op gives it back, for every operand and every number of ports
(30_encoding.md R80 to R83). -/
def Obligations.DecodeOfEncode : Prop :=
  ∀ (nports : Nat) (i : Instr), i.wf nports = true → decode nports (encode i) = .ok i

/-- A word the decoder accepts is the encoding of what it gives, and that is well formed (30_encoding.md R80, R81). -/
def Obligations.EncodeOfDecode : Prop :=
  ∀ (nports : Nat) (w : Word) (i : Instr), decode nports w = .ok i → encode i = w ∧ i.wf nports = true

/-- 30_encoding.md R84: the words that have no micro-op are exactly those of the four conditions, and executing one sets
HALT_WORD, raises Halt(ILLEGAL) and changes nothing else. -/
def Obligations.IllegalWordsHalt : Prop :=
  (∀ (nports : Nat) (w : Word),
    ((∃ r, decode nports w = .error r) ∨ ∃ x, decode nports w = .ok (.reserved x)) ↔ IllegalWord nports w) ∧
  ∀ (s : State) (w : Word), bootRefusal s = none → s.mode = .run → s.resetIn = [] →
    s.seq[s.upc.toNat]? = some w → IllegalWord s.cfg.nports w →
    step s = .next { s with
      haltWord := some w
      haltCause := .illegal
      mode := .halt
      trace := s.trace ++ [.halt .illegal] }

/-- Words of 95_test_vectors.md section 2.1, NPORTS = 6. -/
def Obligations.DecodeSampleWords : Prop :=
  decode 6 0x2035 = .ok (.vpmap 3 5) ∧ decode 6 0x35FF = .ok (.dirset 5 0xFF) ∧
  decode 6 0x75E8 = .ok (.pincfg 5 7 false true) ∧ decode 6 0x89F4 = .ok (.delay .ms 500) ∧
  decode 6 0x9603 = .ok (.spicfg 3 false true true) ∧ decode 6 0xC007 = .ok (.linetest 7) ∧
  decode 6 0xD999 = .ok (.fail 9 9 9) ∧ decode 6 0x2006 = .error .noSuchPort ∧
  decode 6 0x7001 = .error .mustBeZero ∧ decode 6 0xD0A0 = .error .countAboveNine

/-! Reset. -/

/-- 10_state.md R45: every piece of state after reset, for every configuration and sequence. -/
def Obligations.ResetState : Prop :=
  ∀ (cfg : Config) (seq : List Word) (events : List Event) (s : State), s.cfg = cfg → s.seq = seq →
    ∀ t, (t = State.initial cfg seq ∨ t = takeReset events s) →
    t.upc = 0 ∧ t.mode = .run ∧ t.haltCause = .none ∧
    t.obsv = none ∧ t.phyv = none ∧ t.line = none ∧ t.mask = none ∧ t.resid = none ∧ t.code = none ∧
    t.haltWord = none ∧
    (∀ p, getPort t.dir p = 0 ∧ getPort t.out p = 0 ∧ ∀ i, getPin (getPort t.pinctrl p) i = ⟨false, false⟩) ∧
    t.dbgEn = true ∧ (∀ k, getVPort t.vpmap k = 0) ∧ t.ethSpi = ⟨0, false, false, false⟩ ∧
    t.blink = none ∧ t.heart = none ∧ t.cfg = cfg ∧ t.seq = seq ∧ ledLit t = false

/-- 70_reset_and_hazards.md R241: after reset the first word of the sequence is fetched in RUN, the indicator is off and
every pin is an input. -/
def Obligations.ResetEntry : Prop :=
  ∀ (s : State) (events : List Event) (w : Word) (rest : List Word), s.seq = w :: rest →
    (takeReset events s).upc = 0 ∧ (takeReset events s).mode = .run ∧ fetch (takeReset events s) = .word w ∧
    ledLit (takeReset events s) = false ∧ ∀ p i, driven (takeReset events s) p i = none

/-- A reset input that is due is taken in any mode: every register returns to its reset value, the configuration and the
sequence stay, and Reset is recorded; the resets after it are still to come (70_reset_and_hazards.md R240, R242; the form of
the input, what supplies later pin levels and what survives of both is the model's choice, log entries 4 and 5). -/
def Obligations.ResetTakenInAnyMode : Prop :=
  ∀ (s : State) (later : List Nat), bootRefusal s = none → s.resetIn = 0 :: later →
    step s = .next { State.initial s.cfg s.seq with
      trace := s.trace ++ [.reset]
      env := s.env
      draws := s.draws
      resetIn := later }

/-- A reset input due after k more events is taken at that boundary inside a step, which is then abandoned with every register
at its reset value, and otherwise only counts down; the resets after it are still to come (70_reset_and_hazards.md R240, R242;
the form of the input, what supplies later pin levels and what survives of both is the model's choice, log entries 4 and 5).
That the boundary between DBGOFF's two writes is one of them is the model's choice too (log entry 6): R101 and R68 let nothing
come between the two. -/
def Obligations.ResetAtAnyEventBoundary : Prop :=
  ∀ (s u : State) (k : Nat) (later : List Nat), s.resetIn = [] → step s = .next u →
    (k + 1 < u.trace.length - s.trace.length →
      step { s with resetIn := (k + 1) :: later } = .next { State.initial s.cfg s.seq with
        trace := u.trace.take (s.trace.length + (k + 1)) ++ [.reset]
        env := s.env.drop (readsIn ((newEvents s u).take (k + 1)))
        draws := s.draws + readsIn ((newEvents s u).take (k + 1))
        resetIn := later }) ∧
    (u.trace.length - s.trace.length ≤ k + 1 →
      step { s with resetIn := (k + 1) :: later } =
        .next { u with resetIn := (k + 1 - (u.trace.length - s.trace.length)) :: later })

/-! The step. -/

/-- A step in RUN is exec of the decoded word (10_state.md R24); a pending reset input acts on it as `underReset` says, whose
form is the model's choice (log entries 5 and 6). -/
def Obligations.StepRunsDecoded : Prop :=
  ∀ (s : State) (w : Word) (i : Instr), bootRefusal s = none → s.mode = .run →
    s.seq[s.upc.toNat]? = some w → decode s.cfg.nports w = .ok i →
    step s = underReset s (exec i s) ∧ (s.resetIn = [] → step s = exec i s)

/-- At UPC = SEQ_LEN the fetch raises Halt(OVERRUN): HALT_CAUSE, MODE and the event, UPC and all else unchanged
(10_state.md R24, 60_exceptions.md R220, R224). -/
def Obligations.OverrunHalts : Prop :=
  ∀ s : State, bootRefusal s = none → s.mode = .run → s.resetIn = [] → s.upc.toNat = s.seq.length →
    step s = .next { s with haltCause := .overrun, mode := .halt, trace := s.trace ++ [.halt .overrun] }

/-- 40_board_init.md R104: a sequence is refused exactly when the DBGOFF word stands at an index other than 0, and no
standard sequence is refused. -/
def Obligations.LateDbgoffRefused : Prop :=
  (∀ s : State, 1 ≤ s.seq.length → s.seq.length ≤ 255 →
    (step s = .refused .sequenceNotWellFormed ↔ ∃ j, 0 < j ∧ s.seq[j]? = some 0x1000)) ∧
  ∀ c : Config, configOk c = true → bootRefusal (State.initial c (standardSequence c)) = none

/-- In HALT nothing happens (10_state.md R25, 93 U17). -/
def Obligations.HaltIsStuck : Prop :=
  ∀ s : State, bootRefusal s = none → s.mode = .halt → s.resetIn = [] → step s = .next s

/-- A step in RUN moves UPC on by one, without wrapping, or enters a terminal state and leaves UPC (10_state.md R24). -/
def Obligations.RunStepAdvancesOrEnds : Prop :=
  ∀ s t : State, s.mode = .run → s.resetIn = [] → step s = .next t →
    (t.mode = .run ∧ t.upc.toNat = s.upc.toNat + 1) ∨ (t.mode ≠ .run ∧ t.upc = s.upc)

/-- No step leaves BLINK, HEART or HALT without a reset; UPC, OUT, the pin controls, the system registers, the code and the
observation registers stay, and of DIR only the indicator's bit may change (10_state.md R25, 60_exceptions.md R228,
70_reset_and_hazards.md R248). -/
def Obligations.TerminalModesStay : Prop :=
  ∀ s t : State, s.mode ≠ .run → s.resetIn = [] → step s = .next t →
    t.mode = s.mode ∧ t.upc = s.upc ∧ t.out = s.out ∧ t.pinctrl = s.pinctrl ∧ t.dbgEn = s.dbgEn ∧
    t.vpmap = s.vpmap ∧ t.ethSpi = s.ethSpi ∧ t.code = s.code ∧ t.obsv = s.obsv ∧ t.phyv = s.phyv ∧
    t.line = s.line ∧ t.mask = s.mask ∧ t.resid = s.resid ∧ t.haltCause = s.haltCause ∧
    t.haltWord = s.haltWord ∧ t.env = s.env ∧
    ∀ (p : PortNo) (i : PinNo), (p ≠ s.cfg.led.port ∨ i ≠ s.cfg.led.pin) →
      (getPort t.dir p).getLsbD i.toNat = (getPort s.dir p).getLsbD i.toNat

/-- There are no jumps: whatever the sequence holds and the pins read, a machine in RUN stands in a terminal state after at
most one step for each word left and one more (10_state.md R24, R25). -/
def Obligations.RunEndsWithinSequence : Prop :=
  ∀ s : State, bootRefusal s = none → s.mode = .run → s.resetIn = [] → s.upc.toNat ≤ s.seq.length →
    ∃ (k : Nat) (t : State), 1 ≤ k ∧ k ≤ s.seq.length - s.upc.toNat + 1 ∧
      Host.Core.run Sys2Proof.core k s = .next t ∧ t.mode ≠ .run

/-! Invariants. -/

/-- The invariant holds of every machine right after reset, the model's own reset state among them (10_state.md R45). -/
def Obligations.InvHoldsAfterReset : Prop :=
  Inv State.reset ∧ ∀ (cfg : Config) (seq : List Word), configOk cfg = true → sequenceOk seq = true →
    Inv (State.initial cfg seq)

/-- Every step keeps the invariant, a step cut short by a reset too. -/
def Obligations.StepKeepsInv : Prop :=
  ∀ s t : State, Inv s → step s = .next t → Inv t

/-- From a state of the invariant no step faults or is refused: every step has a next state (60_exceptions.md R220 names
every event, and each is a terminal state). -/
def Obligations.InvStepsAlwaysComplete : Prop :=
  ∀ s : State, Inv s → ∃ t, step s = .next t

/-- The debug disable is only ever written directly after the key: it holds with no event recorded, and every step keeps it
(20_memory.md R63, R68, 60_exceptions.md R230, 70_reset_and_hazards.md R247). -/
def Obligations.DebugWriteFollowsKey : Prop :=
  (∀ s : State, s.trace = [] → KeyGuarded s) ∧ ∀ s t : State, KeyGuarded s → step s = .next t → KeyGuarded t

/-- The trace records every register write with its full new value: the port and system registers are what the trace tells,
after reset and after every step (20_memory.md R64). -/
def Obligations.TraceTellsRegisters : Prop :=
  TraceTells State.reset ∧ ∀ s t : State, TraceTells s → step s = .next t → TraceTells t

/-- A step only adds events after those recorded (20_memory.md R64, R66). -/
def Obligations.TraceOnlyGrows : Prop :=
  ∀ s t : State, step s = .next t → ∃ events, t.trace = s.trace ++ events

/-- No step changes the configuration or the sequence ROM, reset included (20_memory.md R69, 70_reset_and_hazards.md R242). -/
def Obligations.ConfigAndSequenceStay : Prop :=
  ∀ s t : State, step s = .next t → t.cfg = s.cfg ∧ t.seq = s.seq

/-- The observation registers, HALT_CAUSE, HALT_WORD, DBG_EN, VPMAP, ETH_SPI and the PULLUP bits are read by no rule: two
states that differ in them alone step alike (10_state.md R20, R30, R36, R38). The two states draw the same pin levels, the
model's choice of log entry 4: an environment that uses PULLUP (R30, 93 U18) is held equal in both. -/
def Obligations.UnreadRegistersNeverMatter : Prop :=
  ∀ s t : State, forget s = forget t → forgetResult (step s) = forgetResult (step t)

/-- The writers of each port and system register among the micro-ops (10_state.md R32, R35 to R38). -/
def Obligations.PortRegisterWriters : Prop :=
  ∀ (i : Instr) (s t : State), exec i s = .next t →
    (t.dir ≠ s.dir → (∃ p m, i = .dirset p m) ∨ (∃ p m, i = .dirclr p m) ∨ ∃ n, i = .linetest n) ∧
    (t.out ≠ s.out → (∃ p m, i = .outset p m) ∨ (∃ p m, i = .outclr p m) ∨
      (s.cfg.clockedRead = true ∧ (i = .rdphy ∨ ∃ n, i = .linetest n))) ∧
    (t.pinctrl ≠ s.pinctrl → ∃ p pin a v, i = .pincfg p pin a v) ∧
    (t.dbgEn ≠ s.dbgEn → i = .dbgoff ∧ t.dbgEn = false) ∧
    (t.vpmap ≠ s.vpmap → ∃ k p, i = .vpmap k p) ∧
    (t.ethSpi ≠ s.ethSpi → ∃ b c u r, i = .spicfg b c u r)

/-- The writers of each sequencer register among the micro-ops, MODE and UPC too: only the micro-ops that can enter a terminal
state leave UPC, and only an ILLEGAL one halts (10_state.md R20, R24, 44_signaling.md R180, R190, 60_exceptions.md R224; that
operands the decoder rejects reach a meaning is the model's choice, log entry 7). -/
def Obligations.SequencerRegisterWriters : Prop :=
  ∀ (i : Instr) (s t : State), exec i s = .next t →
    (t.obsv ≠ s.obsv → i = .idlechk ∨ ∃ n, i = .linetest n) ∧
    (t.phyv ≠ s.phyv → i = .rdphy ∨ ∃ n, i = .linetest n) ∧
    (t.line ≠ s.line ∨ t.mask ≠ s.mask ∨ t.resid ≠ s.resid → ∃ n, i = .linetest n) ∧
    (t.code ≠ s.code ∨ t.blink ≠ s.blink → t.mode = .blink ∧
      (i = .idlechk ∨ (∃ n, i = .linetest n) ∨ ∃ l c e, i = .fail l c e)) ∧
    (t.heart ≠ s.heart → i = .heartbeat) ∧
    (t.haltCause ≠ s.haltCause ∨ t.haltWord ≠ s.haltWord → t.mode = .halt ∧ t.haltCause = .illegal ∧
      t.haltWord = some (encode i) ∧ (i.wf s.cfg.nports = false ∨ ∃ x, i = .reserved x)) ∧
    (t.mode ≠ s.mode →
      (t.mode = .blink ∧ (i = .idlechk ∨ (∃ n, i = .linetest n) ∨ ∃ l c e, i = .fail l c e)) ∨
      (t.mode = .heart ∧ i = .heartbeat) ∨
      (t.mode = .halt ∧ (i.wf s.cfg.nports = false ∨ ∃ x, i = .reserved x))) ∧
    (t.upc = s.upc + 1 ∨ (t.upc = s.upc ∧ t.mode ≠ .run ∧
      (i = .idlechk ∨ (∃ n, i = .linetest n) ∨ (∃ l c e, i = .fail l c e) ∨ i = .heartbeat ∨
        i.wf s.cfg.nports = false ∨ ∃ x, i = .reserved x)))

/-! Bring-up. -/

/-- 40_board_init.md R100: NOP changes UPC alone; the other words of opcode 0x0 are ILLEGAL. -/
def Obligations.NopOnlyAdvances : Prop :=
  (∀ nports, decode nports 0x0000 = .ok .nop) ∧
  (∀ (nports : Nat) (x : BitVec 12), x ≠ 0 → decode nports (x.setWidth 16) = .error .mustBeZero) ∧
  ∀ s : State, exec .nop s = .next { s with upc := s.upc + 1 }

/-- 40_board_init.md R101: the key, then the target register, then DBG_EN is 0, whatever it was; a sequence with DBGOFF at
another index is refused. -/
def Obligations.DbgoffDisablesDebug : Prop :=
  (∀ nports, decode nports 0x1000 = .ok .dbgoff) ∧
  (∀ s : State, exec .dbgoff s = .next { s with
    dbgEn := false
    trace := s.trace ++ [.keyW s.cfg.ccpKey, .dbgW]
    upc := s.upc + 1 }) ∧
  ∀ (s : State) (j : Nat), 0 < j → s.seq[j]? = some 0x1000 → ∃ r, step s = .refused r

/-- 40_board_init.md R102: VPMAP k, p for a port that exists, the later of two writes standing; the word of another port, or with bits 11:6 set, is ILLEGAL. -/
def Obligations.VpmapMapsPort : Prop :=
  ∀ (s : State) (k : VPortNo) (p : PortNo),
    encode (.vpmap k p) = 0x2000#16 ||| (k.setWidth 16 <<< 4) ||| p.setWidth 16 ∧
    (p.toNat < s.cfg.nports →
      decode s.cfg.nports (0x2000#16 ||| (k.setWidth 16 <<< 4) ||| p.setWidth 16) = .ok (.vpmap k p) ∧
      exec (.vpmap k p) s = .next { s with
        vpmap := setVPort s.vpmap k p
        trace := s.trace ++ [.vpW k p]
        upc := s.upc + 1 } ∧
      (∀ j, getVPort (setVPort s.vpmap k p) j = if j = k then p else getVPort s.vpmap j) ∧
      ∀ q, setVPort (setVPort s.vpmap k p) k q = setVPort s.vpmap k q) ∧
    (s.cfg.nports ≤ p.toNat →
      decode s.cfg.nports (0x2000#16 ||| (k.setWidth 16 <<< 4) ||| p.setWidth 16) = .error .noSuchPort) ∧
    ∀ x : BitVec 6, x ≠ 0 →
      decode s.cfg.nports (0x2000#16 ||| (x.setWidth 16 <<< 6) ||| (k.setWidth 16 <<< 4) ||| p.setWidth 16) =
        .error .mustBeZero

/-- 40_board_init.md R103: DELAY records its wait, of any count in either unit, and advances. -/
def Obligations.DelayRecordsWait : Prop :=
  ∀ (s : State) (u : TimeUnit) (n : BitVec 11),
    decode s.cfg.nports (0x8000#16 ||| ((if u = .us then 0#16 else 1#16) <<< 11) ||| n.setWidth 16) =
      .ok (.delay u n) ∧
    exec (.delay u n) s = .next { s with
      trace := s.trace ++ [.wait (.span ⟨n.toNat, u⟩)]
      upc := s.upc + 1 }

/-! Pin configuration. -/

/-- 41_pin_config.md R120: DIRSET sets the mask's bits in DIR[p], keeps the others, records the new value, and each pin of the
mask then drives its OUT level (of a pin whose INVEN is 0: R31). -/
def Obligations.DirsetMakesOutputs : Prop :=
  ∀ (s : State) (p : PortNo) (m : Byte),
    (p.toNat < s.cfg.nports →
      decode s.cfg.nports (0x3000#16 ||| (p.setWidth 16 <<< 8) ||| m.setWidth 16) = .ok (.dirset p m) ∧
      exec (.dirset p m) s = .next { s with
        dir := setPort s.dir p (getPort s.dir p ||| m)
        trace := s.trace ++ [.dirW p (getPort s.dir p ||| m)]
        upc := s.upc + 1 } ∧
      ∀ (t : State) (i : PinNo), exec (.dirset p m) s = .next t → m.getLsbD i.toNat = true →
        (getPin (getPort s.pinctrl p) i).inven = false →
        driven t p i = some ((getPort s.out p).getLsbD i.toNat)) ∧
    (s.cfg.nports ≤ p.toNat →
      decode s.cfg.nports (0x3000#16 ||| (p.setWidth 16 <<< 8) ||| m.setWidth 16) = .error .noSuchPort)

/-- 41_pin_config.md R122: DIRCLR clears the mask's bits in DIR[p], and each pin of the mask is released. -/
def Obligations.DirclrReleasesLines : Prop :=
  ∀ (s : State) (p : PortNo) (m : Byte),
    (p.toNat < s.cfg.nports →
      decode s.cfg.nports (0x4000#16 ||| (p.setWidth 16 <<< 8) ||| m.setWidth 16) = .ok (.dirclr p m) ∧
      exec (.dirclr p m) s = .next { s with
        dir := setPort s.dir p (getPort s.dir p &&& ~~~m)
        trace := s.trace ++ [.dirW p (getPort s.dir p &&& ~~~m)]
        upc := s.upc + 1 } ∧
      ∀ (t : State) (i : PinNo), exec (.dirclr p m) s = .next t → m.getLsbD i.toNat = true → driven t p i = none) ∧
    (s.cfg.nports ≤ p.toNat →
      decode s.cfg.nports (0x4000#16 ||| (p.setWidth 16 <<< 8) ||| m.setWidth 16) = .error .noSuchPort)

/-- 41_pin_config.md R124: OUTSET sets the mask's bits in OUT[p]; a pin whose DIR bit is 0 still drives nothing. -/
def Obligations.OutsetRaisesLevels : Prop :=
  ∀ (s : State) (p : PortNo) (m : Byte),
    (p.toNat < s.cfg.nports →
      decode s.cfg.nports (0x5000#16 ||| (p.setWidth 16 <<< 8) ||| m.setWidth 16) = .ok (.outset p m) ∧
      exec (.outset p m) s = .next { s with
        out := setPort s.out p (getPort s.out p ||| m)
        trace := s.trace ++ [.outW p (getPort s.out p ||| m)]
        upc := s.upc + 1 } ∧
      ∀ (t : State) (i : PinNo), exec (.outset p m) s = .next t → (getPort s.dir p).getLsbD i.toNat = false →
        driven t p i = none) ∧
    (s.cfg.nports ≤ p.toNat →
      decode s.cfg.nports (0x5000#16 ||| (p.setWidth 16 <<< 8) ||| m.setWidth 16) = .error .noSuchPort)

/-- 41_pin_config.md R126: OUTCLR clears the mask's bits in OUT[p], and does not light an indicator whose DIR bit is 0; one whose
DIR bit is 1 with its OUT bit at 0 stays lit (10_state.md R34). -/
def Obligations.OutclrLowersLevels : Prop :=
  ∀ (s : State) (p : PortNo) (m : Byte),
    (p.toNat < s.cfg.nports →
      decode s.cfg.nports (0x6000#16 ||| (p.setWidth 16 <<< 8) ||| m.setWidth 16) = .ok (.outclr p m) ∧
      exec (.outclr p m) s = .next { s with
        out := setPort s.out p (getPort s.out p &&& ~~~m)
        trace := s.trace ++ [.outW p (getPort s.out p &&& ~~~m)]
        upc := s.upc + 1 } ∧
      ∀ t : State, exec (.outclr p m) s = .next t →
        ((getPort s.dir s.cfg.led.port).getLsbD s.cfg.led.pin.toNat = false → ledLit s = false ∧ ledLit t = false) ∧
        ((getPort s.dir s.cfg.led.port).getLsbD s.cfg.led.pin.toNat = true →
          (getPort s.out s.cfg.led.port).getLsbD s.cfg.led.pin.toNat = false → ledLit s = true ∧ ledLit t = true)) ∧
    (s.cfg.nports ≤ p.toNat →
      decode s.cfg.nports (0x6000#16 ||| (p.setWidth 16 <<< 8) ||| m.setWidth 16) = .error .noSuchPort)

/-- 41_pin_config.md R128: PINCFG writes both fields of one pin and no other pin's; every later read of that pin is inverted as
INVEN says. -/
def Obligations.PincfgWritesPinControl : Prop :=
  ∀ (s : State) (p : PortNo) (pin : PinNo) (a v : Bool) (x : BitVec 3), ∀ w : Word,
    w = 0x7000#16 ||| (p.setWidth 16 <<< 8) ||| (pin.setWidth 16 <<< 5) |||
      ((BitVec.ofBool a).setWidth 16 <<< 4) ||| ((BitVec.ofBool v).setWidth 16 <<< 3) →
    (p.toNat < s.cfg.nports →
      decode s.cfg.nports w = .ok (.pincfg p pin a v) ∧
      ∃ t, exec (.pincfg p pin a v) s = .next t ∧
        t = { s with pinctrl := t.pinctrl, trace := s.trace ++ [.ctrlW p pin a v], upc := s.upc + 1 } ∧
        getPin (getPort t.pinctrl p) pin = ⟨a, v⟩ ∧
        (∀ q j, (q ≠ p ∨ j ≠ pin) → getPin (getPort t.pinctrl q) j = getPin (getPort s.pinctrl q) j) ∧
        ∀ u : State, u.pinctrl = t.pinctrl →
          (sampled p u).getLsbD pin.toNat = ((pinsNow p u).getLsbD pin.toNat ^^ v)) ∧
    (s.cfg.nports ≤ p.toNat → decode s.cfg.nports w = .error .noSuchPort) ∧
    (x ≠ 0 → decode s.cfg.nports (w ||| x.setWidth 16) = .error .mustBeZero)

/-- 41_pin_config.md R130: SPICFG writes the four fields, on a board with or without the peripheral; bit 11 set is ILLEGAL. -/
def Obligations.SpicfgWritesUnit : Prop :=
  ∀ (s : State) (b : Byte) (c t r : Bool), ∀ w : Word,
    w = 0x9000#16 ||| ((BitVec.ofBool r).setWidth 16 <<< 10) ||| ((BitVec.ofBool t).setWidth 16 <<< 9) |||
      ((BitVec.ofBool c).setWidth 16 <<< 8) ||| b.setWidth 16 →
    decode s.cfg.nports w = .ok (.spicfg b c t r) ∧ decode s.cfg.nports (w ||| 0x0800) = .error .mustBeZero ∧
    exec (.spicfg b c t r) s = .next { s with
      ethSpi := ⟨b, c, t, r⟩
      trace := s.trace ++ [.spiW b c t r]
      upc := s.upc + 1 }

/-- What a pin drives: its OUT level when its DIR bit is 1 and INVEN is 0, nothing when its DIR bit is 0; and the indicator,
its OUT bit at 0, is lit exactly when its DIR bit is 1 (10_state.md R28, R29, R34). With both bits at 1 the view is a free value
(70_reset_and_hazards.md R248, log entry 25): it is dark with the DIR bit at 0 in any case. -/
def Obligations.DirectionDecidesDrive : Prop :=
  ∀ (s : State) (p : PortNo) (i : PinNo),
    ((getPort s.dir p).getLsbD i.toNat = false → driven s p i = none) ∧
    ((getPort s.dir p).getLsbD i.toNat = true → (getPin (getPort s.pinctrl p) i).inven = false →
      driven s p i = some ((getPort s.out p).getLsbD i.toNat)) ∧
    ((getPort s.dir s.cfg.led.port).getLsbD s.cfg.led.pin.toNat = false → ledLit s = false) ∧
    ((getPort s.out s.cfg.led.port).getLsbD s.cfg.led.pin.toNat = false →
      (ledLit s = true ↔ (getPort s.dir s.cfg.led.port).getLsbD s.cfg.led.pin.toNat = true) ∧ ledLit (ledOn s) = true) ∧
    ledLit (ledOff s) = false

/-! Reading. -/

/-- A read of IN[p] takes the next draw, returns it inverted where INVEN is 1, records the drawn and the returned value and
changes no register; every draw can be any value (10_state.md R33; how draws are supplied is the model's own, log entry 4). -/
def Obligations.ReadSamplesPins : Prop :=
  (∀ (s : State) (p : PortNo) (i : PinNo),
    (sampled p s).getLsbD i.toNat =
      ((pinsNow p s).getLsbD i.toNat ^^ (getPin (getPort s.pinctrl p) i).inven)) ∧
  (∀ (s : State) (p : PortNo), sample p s = { s with
    env := s.env.tail
    draws := s.draws + 1
    trace := s.trace ++ [.inR p (pinsNow p s) (sampled p s)] }) ∧
  ∀ (s : State) (p : PortNo) (v : Byte) (rest : List Byte), pinsNow p { s with env := v :: rest } = v

/-- The read primitive on each kind of board, with its events in order (42_read_primitive.md R140); the fields env and draws, from
which a sample takes its levels, are the model's choice (log entry 4). -/
def Obligations.ReadPrimitiveEvents : Prop :=
  ∀ s : State, ∀ clk oe : Byte, clk = lineMaskOf s.cfg.phyClk → oe = lineMaskOf s.cfg.phyOe →
    ∀ v : Byte, v = sampled s.cfg.pPhyd s →
    (readPhy s).1 = (if s.cfg.bitReverse then rev v else v) ∧
    (s.cfg.clockedRead = false → (readPhy s).2 = { s with
      env := s.env.tail
      draws := s.draws + 1
      trace := s.trace ++ [.inR s.cfg.pPhyd (pinsNow s.cfg.pPhyd s) v] }) ∧
    (s.cfg.clockedRead = true → ∀ o1 o2 o3 o4 : Vector Byte 16,
      o1 = setPort s.out s.cfg.phyClk.port (getPort s.out s.cfg.phyClk.port ||| clk) →
      o2 = setPort o1 s.cfg.phyOe.port (getPort o1 s.cfg.phyOe.port &&& ~~~oe) →
      o3 = setPort o2 s.cfg.phyClk.port (getPort o2 s.cfg.phyClk.port &&& ~~~clk) →
      o4 = setPort o3 s.cfg.phyOe.port (getPort o3 s.cfg.phyOe.port ||| oe) →
      (readPhy s).2 = { s with
        out := o4
        env := s.env.tail
        draws := s.draws + 1
        trace := s.trace ++
          [.outW s.cfg.phyClk.port (getPort o1 s.cfg.phyClk.port), .outW s.cfg.phyOe.port (getPort o2 s.cfg.phyOe.port),
            .outW s.cfg.phyClk.port (getPort o3 s.cfg.phyClk.port), .inR s.cfg.pPhyd (pinsNow s.cfg.pPhyd s) v,
            .outW s.cfg.phyOe.port (getPort o4 s.cfg.phyOe.port)] })

/-- The clocked-read lines end at the levels they idle at: with the clock low and the enable high before, the read primitive
leaves OUT as it was (42_read_primitive.md R142). -/
def Obligations.ReadPrimitiveKeepsIdleLevels : Prop :=
  ∀ s : State, configOk s.cfg = true →
    (s.cfg.clockedRead = true →
      (getPort s.out s.cfg.phyClk.port).getLsbD s.cfg.phyClk.pin.toNat = false ∧
      (getPort s.out s.cfg.phyOe.port).getLsbD s.cfg.phyOe.pin.toNat = true) →
    (readPhy s).2.out = s.out

/-- 42_read_primitive.md R146: RDPHY puts what the read primitive returns in PHYV, with its events, and advances. -/
def Obligations.RdphyKeepsValue : Prop :=
  (∀ nports, decode nports 0xA000 = .ok .rdphy) ∧
  (∀ (nports : Nat) (x : BitVec 12), x ≠ 0 → decode nports (0xA000 ||| x.setWidth 16) = .error .mustBeZero) ∧
  ∀ s : State, exec .rdphy s = .next { (readPhy s).2 with
    phyv := some (reorder s.cfg (pinsNow s.cfg.pPhyd s ^^^ invMask (getPort s.pinctrl s.cfg.pPhyd)))
    upc := s.upc + 1 }

/-- 42_read_primitive.md R143, R145: the ROM reverses the bits, is its own inverse, a bijection, and has those 16 fixed
points. -/
def Obligations.RomReversesBits : Prop :=
  (∀ (a : Byte) (i : Fin 8), (rev a).getLsbD (7 - i.val) = a.getLsbD i.val) ∧
  (∀ a, rev (rev a) = a) ∧ Function.Bijective rev ∧
  ∀ a : Byte, rev a = a ↔ a ∈ ([0x00, 0x18, 0x24, 0x3C, 0x42, 0x5A, 0x66, 0x7E,
    0x81, 0x99, 0xA5, 0xBD, 0xC3, 0xDB, 0xE7, 0xFF] : List Byte)

/-- 42_read_primitive.md R147: lsbenc is one more than the lowest set bit's index, and 9 for 0. -/
def Obligations.LsbencFindsLowestBit : Prop :=
  lsbenc 0 = 9 ∧
  (∀ (v : Byte) (i : Fin 8), v.getLsbD i.val = true → (∀ j : Fin 8, j < i → v.getLsbD j.val = false) →
    (lsbenc v).toNat = i.val + 1) ∧
  ∀ v : Byte, 1 ≤ (lsbenc v).toNat ∧ (lsbenc v).toNat ≤ 9

/-! Self-test. -/

/-- IDLECHK passes on 0 and otherwise reports the lowest set bit alone (43_self_test.md R160, R161); the fields env and draws (log
entry 4) and the loop's hidden position at entry (log entry 8) are the model's choice. -/
def Obligations.IdlechkReportsLowestLine : Prop :=
  (∀ nports, decode nports 0xB000 = .ok .idlechk) ∧
  (∀ (nports : Nat) (x : BitVec 12), x ≠ 0 → decode nports (0xB000 ||| x.setWidth 16) = .error .mustBeZero) ∧
  ∀ (s : State) (v : Byte), v = pinsNow s.cfg.pObs s ^^^ invMask (getPort s.pinctrl s.cfg.pObs) →
    (v = 0 → exec .idlechk s = .next { s with
      obsv := some 0
      env := s.env.tail
      draws := s.draws + 1
      trace := s.trace ++ [.inR s.cfg.pObs (pinsNow s.cfg.pObs s) 0]
      upc := s.upc + 1 }) ∧
    ∀ b : Fin 8, v.getLsbD b.val = true → (∀ j : Fin 8, j < b → v.getLsbD j.val = false) →
      exec .idlechk s = .next { s with
        obsv := some v
        env := s.env.tail
        draws := s.draws + 1
        trace := s.trace ++ [.inR s.cfg.pObs (pinsNow s.cfg.pObs s) v]
        code := some ⟨1, BitVec.ofNat 4 (b.val + 1), 0⟩
        mode := .blink
        blink := some ⟨.long, 0, .off⟩ }

/-- LINETEST whose observation read-back differs from the mask: LINE, MASK, OBSV and RESID are written, the failure is of
family 2, the line stays driven and the input bus is not read (43_self_test.md R163). The fields env and draws (log entry 4) and
the loop's hidden position at entry (log entry 8) are the model's choice. -/
def Obligations.LinetestOutputShort : Prop :=
  ∀ (s : State) (n : BitVec 3) (m d v : Byte), m = 1#8 <<< n.toNat → d = getPort s.dir s.cfg.pObs ||| m →
    v = pinsNow s.cfg.pObs s ^^^ invMask (getPort s.pinctrl s.cfg.pObs) → v ≠ m →
    exec (.linetest n) s = .next { s with
      line := some (BitVec.ofNat 4 (n.toNat + 1))
      mask := some m
      dir := setPort s.dir s.cfg.pObs d
      env := s.env.tail
      draws := s.draws + 1
      trace := s.trace ++ [.dirW s.cfg.pObs d, .wait (.span s.cfg.tSettle), .inR s.cfg.pObs (pinsNow s.cfg.pObs s) v]
      obsv := some v
      resid := some (v ^^^ m)
      code := some ⟨2, BitVec.ofNat 4 (n.toNat + 1), lsbenc (v ^^^ m)⟩
      mode := .blink
      blink := some ⟨.long, 0, .off⟩ }

/-- LINETEST whose observation read-back is the mask: the input bus is read by the read primitive; a difference is a failure
of family 3 with the line still driven, and otherwise the line is released and UPC moves on (43_self_test.md R163). The fields
env and draws (log entry 4) and the loop's hidden position at entry (log entry 8) are the model's choice. -/
def Obligations.LinetestInputCheck : Prop :=
  ∀ (s u : State) (n : BitVec 3) (m d : Byte), m = 1#8 <<< n.toNat → d = getPort s.dir s.cfg.pObs ||| m →
    pinsNow s.cfg.pObs s ^^^ invMask (getPort s.pinctrl s.cfg.pObs) = m →
    u = { s with
      line := some (BitVec.ofNat 4 (n.toNat + 1))
      mask := some m
      dir := setPort s.dir s.cfg.pObs d
      env := s.env.tail
      draws := s.draws + 1
      trace := s.trace ++ [.dirW s.cfg.pObs d, .wait (.span s.cfg.tSettle), .inR s.cfg.pObs (pinsNow s.cfg.pObs s) m]
      obsv := some m } →
    ((readPhy u).1 ≠ m → exec (.linetest n) s = .next { (readPhy u).2 with
      phyv := some (readPhy u).1
      resid := some ((readPhy u).1 ^^^ m)
      code := some ⟨3, BitVec.ofNat 4 (n.toNat + 1), lsbenc ((readPhy u).1 ^^^ m)⟩
      mode := .blink
      blink := some ⟨.long, 0, .off⟩ }) ∧
    ((readPhy u).1 = m → exec (.linetest n) s = .next { (readPhy u).2 with
      phyv := some m
      dir := setPort (setPort s.dir s.cfg.pObs d) s.cfg.pObs (d &&& ~~~m)
      trace := (readPhy u).2.trace ++ [.dirW s.cfg.pObs (d &&& ~~~m)]
      upc := s.upc + 1 })

/-- Every failure LINETEST n raises: family 2 or 3, short count n, an extra count in 1..8 that is never the sentinel 9, a
nonzero residual, UPC unchanged and the line still driven (43_self_test.md R162, R163 corner cases a and e, R166). -/
def Obligations.LinetestFailureCodes : Prop :=
  ∀ (s t : State) (n : BitVec 3), s.mode = .run → exec (.linetest n) s = .next t → t.mode ≠ .run →
    t.mode = .blink ∧ t.upc = s.upc ∧
    (getPort t.dir s.cfg.pObs).getLsbD n.toNat = true ∧
    ∃ (f e : Count) (r : Byte), t.code = some ⟨f, BitVec.ofNat 4 (n.toNat + 1), e⟩ ∧ (f = 2 ∨ f = 3) ∧
      1 ≤ e.toNat ∧ e.toNat ≤ 8 ∧ t.resid = some r ∧ r ≠ 0 ∧ e = lsbenc r

/-- On the ideal board every line passes, whatever the board's flags (92 D38, an assumption of this claim: log entry 24;
43_self_test.md R163, R164; the levels stand in env, log entry 4). -/
def Obligations.LinetestPassesOnIdealBoard : Prop :=
  ∀ (s : State) (n : BitVec 3) (a b : Byte) (rest : List Byte), configOk s.cfg = true →
    getPort s.dir s.cfg.pObs = 0 → getPort s.out s.cfg.pObs = 0xFF →
    (∀ i, (getPin (getPort s.pinctrl s.cfg.pObs) i).inven = false) →
    s.env = a :: b :: rest →
    a = idealPins (driveLine n s) s.cfg.pObs →
    b = idealPins (phyEnable (observe (driveLine n s))) s.cfg.pPhyd →
    ∃ t, exec (.linetest n) s = .next t ∧ t.mode = s.mode ∧ t.upc = s.upc + 1 ∧
      t.obsv = some (lineMask n) ∧ t.phyv = some (lineMask n) ∧ getPort t.dir s.cfg.pObs = 0

/-! Signaling. -/

/-- FAIL writes the code and enters BLINK at the start of the loop, leaving UPC and every port register; a count above 9 is
ILLEGAL at decode; the period of FAIL 0, 0, 0 is its three pauses (44_signaling.md R182, R180, R181). The loop's hidden position
at entry is the model's choice (log entry 8). -/
def Obligations.FailEntersBlink : Prop :=
  ∀ (s : State) (l c e : Count), ∀ w : Word,
    w = 0xD000#16 ||| (l.setWidth 16 <<< 8) ||| (c.setWidth 16 <<< 4) ||| e.setWidth 16 →
    (l.toNat ≤ 9 → c.toNat ≤ 9 → e.toNat ≤ 9 →
      decode s.cfg.nports w = .ok (.fail l c e) ∧
      exec (.fail l c e) s = .next { s with
        code := some ⟨l, c, e⟩
        mode := .blink
        blink := some ⟨.long, 0, .off⟩ }) ∧
    ((9 < l.toNat ∨ 9 < c.toNat ∨ 9 < e.toNat) → decode s.cfg.nports w = .error .countAboveNine) ∧
    ∀ v : Byte, blinkPeriod s.cfg v ⟨0, 0, 0⟩ =
      [.wait (.span s.cfg.tGap), .wait (.span s.cfg.tGap), .wait (.span s.cfg.tEnd)]

/-- HEARTBEAT enters HEART with the counter at 0 and leaves UPC and all else (44_signaling.md R190; the phase it starts
in is the model's, log entry 8). -/
def Obligations.HeartbeatEntersHeart : Prop :=
  (∀ nports, decode nports 0xE000 = .ok .heartbeat) ∧
  (∀ (nports : Nat) (x : BitVec 12), x ≠ 0 → decode nports (0xE000 ||| x.setWidth 16) = .error .mustBeZero) ∧
  ∀ s : State, exec .heartbeat s = .next { s with mode := .heart, heart := some ⟨0, .off⟩ }

/-- The reserved opcode, and operands the decoder rejects given to a meaning directly, halt as ILLEGAL with their word and
change no port register (30_encoding.md R84, 60_exceptions.md R223, R224; log entry 7). -/
def Obligations.ReservedAndIllFormedHalt : Prop :=
  ∀ (i : Instr) (s : State), (i.wf s.cfg.nports = false ∨ ∃ x, i = .reserved x) →
    exec i s = .next { s with
      haltWord := some (encode i)
      haltCause := .illegal
      mode := .halt
      trace := s.trace ++ [.halt .illegal] }

/-- From the start of the blink loop, the steps of one period record exactly its events and stand at its end, which is the
start of the next (44_signaling.md R181). How many steps a period takes and the hidden position between them are the model's
choice (log entry 8). -/
def Obligations.BlinkPeriodRuns : Prop :=
  ∀ (s : State) (c : FailCode) (b : BlinkPos), bootRefusal s = none → s.mode = .blink → s.resetIn = [] →
    s.code = some c → s.blink = some b → b.ph = .off → (b.group = .endPause ∨ (b.group = .long ∧ b.k = 0)) →
    Host.Core.run Sys2Proof.core (2 * flashTotal c + 3) s = .next { s with
      dir := if flashTotal c = 0 then s.dir
        else setPort s.dir s.cfg.led.port (getPort s.dir s.cfg.led.port &&& ~~~lineMaskOf s.cfg.led)
      trace := s.trace ++ blinkPeriod s.cfg (getPort s.dir s.cfg.led.port) c
      blink := some ⟨.endPause, 0, .off⟩ }

/-- The nominal length of a period, and its number of LedOn and LedOff events (44_signaling.md R183). -/
def Obligations.BlinkPeriodLength : Prop :=
  ∀ (c : Config) (v : Byte) (code : FailCode),
    waitTotal c (blinkPeriod c v code) =
      (code.long.toNat + code.extra.toNat) * (micros c.tSlowOn + micros c.tSlowOff) +
        code.short.toNat * (micros c.tFastOn + micros c.tFastOff) + 2 * micros c.tGap + micros c.tEnd ∧
    (blinkPeriod c v code).count (.dirW c.led.port (v ||| lineMaskOf c.led)) = flashTotal code ∧
    (blinkPeriod c v code).count (.dirW c.led.port (v &&& ~~~lineMaskOf c.led)) = flashTotal code

/-- From a fresh counter, the steps of one ramp record the pulse of every counter value 0 to HB_TOP, a value of the six-bit
counter (10_state.md R43), and stand at a counter of 0 again with the indicator dark (44_signaling.md R191, 90_conflicts.md C5).
How many steps a ramp takes and its hidden phase are the model's choice (log entry 8). -/
def Obligations.HeartRampRuns : Prop :=
  ∀ s : State, bootRefusal s = none → s.mode = .heart → s.resetIn = [] → s.cfg.hbTop ≤ 63 →
    s.heart = some ⟨0, .off⟩ →
    Host.Core.run Sys2Proof.core (2 * (s.cfg.hbTop + 1)) s = .next { s with
      dir := setPort s.dir s.cfg.led.port (getPort s.dir s.cfg.led.port &&& ~~~lineMaskOf s.cfg.led)
      trace := s.trace ++ heartRamp s.cfg (getPort s.dir s.cfg.led.port)
      heart := some ⟨0, .off⟩ }

/-- 44_signaling.md R192: the duty of every counter value, the 256 lit and 1056 total units of a ramp, and d at most 16, with
HB_TOP = 32 and HB_MID = 16. -/
def Obligations.HeartDutyTable : Prop :=
  ∀ c : Config, c.hbTop = 32 → c.hbMid = 16 →
    (List.range 33).map (fun n => heartDuty c (BitVec.ofNat 6 n)) =
      [0, 1, 2, 3, 4, 5, 6, 7, 8, 9, 10, 11, 12, 13, 14, 15, 16, 15, 14, 13, 12, 11, 10, 9, 8, 7, 6, 5, 4, 3, 2, 1, 0] ∧
    (List.range 33).map (fun n => heartDuty c (BitVec.ofNat 6 n)) = (List.range 33).map (rampDuty c) ∧
    ((List.range 33).map (rampDuty c)).sum = 256 ∧
    ∀ v : Byte, waitTotal c (heartRamp c v) = 1056 * micros c.hbUnit

/-! The standard sequence. -/

/-- 45_post_sequence.md R208: the length of the standard sequence on every board; it is well formed, every word of it decodes to
its micro-op, and it ends in HEARTBEAT. -/
def Obligations.StandardSequenceShape : Prop :=
  ∀ c : Config, configOk c = true →
    (standardSequence c).length =
      23 + c.vpmapCfg.length + (if c.clockedRead then 6 else 0) + (if c.hasEth then 13 else 0) +
        (if c.hasStorage then 6 else 0) ∧
    (standardSequence c).length ≤ 52 ∧ sequenceOk (standardSequence c) = true ∧
    (standardSequence c).map (decode c.nports) = (standardProgram c).map Except.ok ∧
    (standardSequence c).getLast? = some 0xE000

/-! What stops a step. -/

/-- A step has no next state in two cases alone. One is a sequence ROM that is refused: DBGOFF past index 0 (40_board_init.md
R104), or, the model's choice, not 1 to 255 words (log entry 10). The other is the model's choice too: a fetch in RUN at a UPC
above SEQ_LEN, a value 10_state.md R20 does not give it (log entry 11). That every configuration runs (log entry 19), and that
the loops run on with free values where a register is absent (log entry 18), are the model's choices as well. -/
def Obligations.OnlySequenceStopsStep : Prop :=
  ∀ s : State,
    ((∃ t, step s = .next t) ↔
      sequenceOk s.seq = true ∧ (s.mode = .run → s.upc.toNat ≤ s.seq.length ∨ ∃ later, s.resetIn = 0 :: later)) ∧
    (sequenceOk s.seq = false → step s = .refused .sequenceNotWellFormed)

/-- A step that ends in HALT, entering it or standing in it, leaves every port register, the indicator and the level on every
pin as they were (60_exceptions.md R224, 10_state.md R25, 93 U17). This holds for any value of the two free views (log
entries 14 and 25), which no halt draws anew. -/
def Obligations.HaltKeepsWhatIsSeen : Prop :=
  ∀ s t : State, s.resetIn = [] → step s = .next t → t.mode = .halt →
    t.dir = s.dir ∧ t.out = s.out ∧ t.pinctrl = s.pinctrl ∧ ledLit t = ledLit s ∧ ∀ p i, driven t p i = driven s p i
end

