-- ==== Sys2Proof/Laws/State.lean ====
section
/-! SUPPORT. What each basic update of the state does to each field: one lemma per field per update. -/

namespace Sys2Proof.Laws

open Sys2Proof.Machine

variable (s : State)

/-! record -/

@[simp] theorem record_cfg (e : Event) : (record e s).cfg = s.cfg := rfl
@[simp] theorem record_seq (e : Event) : (record e s).seq = s.seq := rfl
@[simp] theorem record_upc (e : Event) : (record e s).upc = s.upc := rfl
@[simp] theorem record_mode (e : Event) : (record e s).mode = s.mode := rfl
@[simp] theorem record_obsv (e : Event) : (record e s).obsv = s.obsv := rfl
@[simp] theorem record_phyv (e : Event) : (record e s).phyv = s.phyv := rfl
@[simp] theorem record_line (e : Event) : (record e s).line = s.line := rfl
@[simp] theorem record_mask (e : Event) : (record e s).mask = s.mask := rfl
@[simp] theorem record_resid (e : Event) : (record e s).resid = s.resid := rfl
@[simp] theorem record_code (e : Event) : (record e s).code = s.code := rfl
@[simp] theorem record_haltCause (e : Event) : (record e s).haltCause = s.haltCause := rfl
@[simp] theorem record_haltWord (e : Event) : (record e s).haltWord = s.haltWord := rfl
@[simp] theorem record_dir (e : Event) : (record e s).dir = s.dir := rfl
@[simp] theorem record_out (e : Event) : (record e s).out = s.out := rfl
@[simp] theorem record_pinctrl (e : Event) : (record e s).pinctrl = s.pinctrl := rfl
@[simp] theorem record_dbgEn (e : Event) : (record e s).dbgEn = s.dbgEn := rfl
@[simp] theorem record_vpmap (e : Event) : (record e s).vpmap = s.vpmap := rfl
@[simp] theorem record_ethSpi (e : Event) : (record e s).ethSpi = s.ethSpi := rfl
@[simp] theorem record_blink (e : Event) : (record e s).blink = s.blink := rfl
@[simp] theorem record_heart (e : Event) : (record e s).heart = s.heart := rfl
@[simp] theorem record_trace (e : Event) : (record e s).trace = s.trace ++ [e] := rfl
@[simp] theorem record_env (e : Event) : (record e s).env = s.env := rfl
@[simp] theorem record_draws (e : Event) : (record e s).draws = s.draws := rfl
@[simp] theorem record_resetIn (e : Event) : (record e s).resetIn = s.resetIn := rfl

/-! wait -/

@[simp] theorem wait_cfg (d : WaitTime) : (wait d s).cfg = s.cfg := rfl
@[simp] theorem wait_seq (d : WaitTime) : (wait d s).seq = s.seq := rfl
@[simp] theorem wait_upc (d : WaitTime) : (wait d s).upc = s.upc := rfl
@[simp] theorem wait_mode (d : WaitTime) : (wait d s).mode = s.mode := rfl
@[simp] theorem wait_obsv (d : WaitTime) : (wait d s).obsv = s.obsv := rfl
@[simp] theorem wait_phyv (d : WaitTime) : (wait d s).phyv = s.phyv := rfl
@[simp] theorem wait_line (d : WaitTime) : (wait d s).line = s.line := rfl
@[simp] theorem wait_mask (d : WaitTime) : (wait d s).mask = s.mask := rfl
@[simp] theorem wait_resid (d : WaitTime) : (wait d s).resid = s.resid := rfl
@[simp] theorem wait_code (d : WaitTime) : (wait d s).code = s.code := rfl
@[simp] theorem wait_haltCause (d : WaitTime) : (wait d s).haltCause = s.haltCause := rfl
@[simp] theorem wait_haltWord (d : WaitTime) : (wait d s).haltWord = s.haltWord := rfl
@[simp] theorem wait_dir (d : WaitTime) : (wait d s).dir = s.dir := rfl
@[simp] theorem wait_out (d : WaitTime) : (wait d s).out = s.out := rfl
@[simp] theorem wait_pinctrl (d : WaitTime) : (wait d s).pinctrl = s.pinctrl := rfl
@[simp] theorem wait_dbgEn (d : WaitTime) : (wait d s).dbgEn = s.dbgEn := rfl
@[simp] theorem wait_vpmap (d : WaitTime) : (wait d s).vpmap = s.vpmap := rfl
@[simp] theorem wait_ethSpi (d : WaitTime) : (wait d s).ethSpi = s.ethSpi := rfl
@[simp] theorem wait_blink (d : WaitTime) : (wait d s).blink = s.blink := rfl
@[simp] theorem wait_heart (d : WaitTime) : (wait d s).heart = s.heart := rfl
@[simp] theorem wait_trace (d : WaitTime) : (wait d s).trace = s.trace ++ [.wait d] := rfl
@[simp] theorem wait_env (d : WaitTime) : (wait d s).env = s.env := rfl
@[simp] theorem wait_draws (d : WaitTime) : (wait d s).draws = s.draws := rfl
@[simp] theorem wait_resetIn (d : WaitTime) : (wait d s).resetIn = s.resetIn := rfl

/-! advance -/

@[simp] theorem advance_cfg : (advance s).cfg = s.cfg := rfl
@[simp] theorem advance_seq : (advance s).seq = s.seq := rfl
@[simp] theorem advance_upc : (advance s).upc = s.upc + 1 := rfl
@[simp] theorem advance_mode : (advance s).mode = s.mode := rfl
@[simp] theorem advance_obsv : (advance s).obsv = s.obsv := rfl
@[simp] theorem advance_phyv : (advance s).phyv = s.phyv := rfl
@[simp] theorem advance_line : (advance s).line = s.line := rfl
@[simp] theorem advance_mask : (advance s).mask = s.mask := rfl
@[simp] theorem advance_resid : (advance s).resid = s.resid := rfl
@[simp] theorem advance_code : (advance s).code = s.code := rfl
@[simp] theorem advance_haltCause : (advance s).haltCause = s.haltCause := rfl
@[simp] theorem advance_haltWord : (advance s).haltWord = s.haltWord := rfl
@[simp] theorem advance_dir : (advance s).dir = s.dir := rfl
@[simp] theorem advance_out : (advance s).out = s.out := rfl
@[simp] theorem advance_pinctrl : (advance s).pinctrl = s.pinctrl := rfl
@[simp] theorem advance_dbgEn : (advance s).dbgEn = s.dbgEn := rfl
@[simp] theorem advance_vpmap : (advance s).vpmap = s.vpmap := rfl
@[simp] theorem advance_ethSpi : (advance s).ethSpi = s.ethSpi := rfl
@[simp] theorem advance_blink : (advance s).blink = s.blink := rfl
@[simp] theorem advance_heart : (advance s).heart = s.heart := rfl
@[simp] theorem advance_trace : (advance s).trace = s.trace := rfl
@[simp] theorem advance_env : (advance s).env = s.env := rfl
@[simp] theorem advance_draws : (advance s).draws = s.draws := rfl
@[simp] theorem advance_resetIn : (advance s).resetIn = s.resetIn := rfl

/-! writeDir -/

@[simp] theorem writeDir_cfg (p : PortNo) (v : Byte) : (writeDir p v s).cfg = s.cfg := rfl
@[simp] theorem writeDir_seq (p : PortNo) (v : Byte) : (writeDir p v s).seq = s.seq := rfl
@[simp] theorem writeDir_upc (p : PortNo) (v : Byte) : (writeDir p v s).upc = s.upc := rfl
@[simp] theorem writeDir_mode (p : PortNo) (v : Byte) : (writeDir p v s).mode = s.mode := rfl
@[simp] theorem writeDir_obsv (p : PortNo) (v : Byte) : (writeDir p v s).obsv = s.obsv := rfl
@[simp] theorem writeDir_phyv (p : PortNo) (v : Byte) : (writeDir p v s).phyv = s.phyv := rfl
@[simp] theorem writeDir_line (p : PortNo) (v : Byte) : (writeDir p v s).line = s.line := rfl
@[simp] theorem writeDir_mask (p : PortNo) (v : Byte) : (writeDir p v s).mask = s.mask := rfl
@[simp] theorem writeDir_resid (p : PortNo) (v : Byte) : (writeDir p v s).resid = s.resid := rfl
@[simp] theorem writeDir_code (p : PortNo) (v : Byte) : (writeDir p v s).code = s.code := rfl
@[simp] theorem writeDir_haltCause (p : PortNo) (v : Byte) : (writeDir p v s).haltCause = s.haltCause := rfl
@[simp] theorem writeDir_haltWord (p : PortNo) (v : Byte) : (writeDir p v s).haltWord = s.haltWord := rfl
@[simp] theorem writeDir_dir (p : PortNo) (v : Byte) : (writeDir p v s).dir = setPort s.dir p v := rfl
@[simp] theorem writeDir_out (p : PortNo) (v : Byte) : (writeDir p v s).out = s.out := rfl
@[simp] theorem writeDir_pinctrl (p : PortNo) (v : Byte) : (writeDir p v s).pinctrl = s.pinctrl := rfl
@[simp] theorem writeDir_dbgEn (p : PortNo) (v : Byte) : (writeDir p v s).dbgEn = s.dbgEn := rfl
@[simp] theorem writeDir_vpmap (p : PortNo) (v : Byte) : (writeDir p v s).vpmap = s.vpmap := rfl
@[simp] theorem writeDir_ethSpi (p : PortNo) (v : Byte) : (writeDir p v s).ethSpi = s.ethSpi := rfl
@[simp] theorem writeDir_blink (p : PortNo) (v : Byte) : (writeDir p v s).blink = s.blink := rfl
@[simp] theorem writeDir_heart (p : PortNo) (v : Byte) : (writeDir p v s).heart = s.heart := rfl
@[simp] theorem writeDir_trace (p : PortNo) (v : Byte) : (writeDir p v s).trace = s.trace ++ [.dirW p v] := rfl
@[simp] theorem writeDir_env (p : PortNo) (v : Byte) : (writeDir p v s).env = s.env := rfl
@[simp] theorem writeDir_draws (p : PortNo) (v : Byte) : (writeDir p v s).draws = s.draws := rfl
@[simp] theorem writeDir_resetIn (p : PortNo) (v : Byte) : (writeDir p v s).resetIn = s.resetIn := rfl

/-! writeOut -/

@[simp] theorem writeOut_cfg (p : PortNo) (v : Byte) : (writeOut p v s).cfg = s.cfg := rfl
@[simp] theorem writeOut_seq (p : PortNo) (v : Byte) : (writeOut p v s).seq = s.seq := rfl
@[simp] theorem writeOut_upc (p : PortNo) (v : Byte) : (writeOut p v s).upc = s.upc := rfl
@[simp] theorem writeOut_mode (p : PortNo) (v : Byte) : (writeOut p v s).mode = s.mode := rfl
@[simp] theorem writeOut_obsv (p : PortNo) (v : Byte) : (writeOut p v s).obsv = s.obsv := rfl
@[simp] theorem writeOut_phyv (p : PortNo) (v : Byte) : (writeOut p v s).phyv = s.phyv := rfl
@[simp] theorem writeOut_line (p : PortNo) (v : Byte) : (writeOut p v s).line = s.line := rfl
@[simp] theorem writeOut_mask (p : PortNo) (v : Byte) : (writeOut p v s).mask = s.mask := rfl
@[simp] theorem writeOut_resid (p : PortNo) (v : Byte) : (writeOut p v s).resid = s.resid := rfl
@[simp] theorem writeOut_code (p : PortNo) (v : Byte) : (writeOut p v s).code = s.code := rfl
@[simp] theorem writeOut_haltCause (p : PortNo) (v : Byte) : (writeOut p v s).haltCause = s.haltCause := rfl
@[simp] theorem writeOut_haltWord (p : PortNo) (v : Byte) : (writeOut p v s).haltWord = s.haltWord := rfl
@[simp] theorem writeOut_dir (p : PortNo) (v : Byte) : (writeOut p v s).dir = s.dir := rfl
@[simp] theorem writeOut_out (p : PortNo) (v : Byte) : (writeOut p v s).out = setPort s.out p v := rfl
@[simp] theorem writeOut_pinctrl (p : PortNo) (v : Byte) : (writeOut p v s).pinctrl = s.pinctrl := rfl
@[simp] theorem writeOut_dbgEn (p : PortNo) (v : Byte) : (writeOut p v s).dbgEn = s.dbgEn := rfl
@[simp] theorem writeOut_vpmap (p : PortNo) (v : Byte) : (writeOut p v s).vpmap = s.vpmap := rfl
@[simp] theorem writeOut_ethSpi (p : PortNo) (v : Byte) : (writeOut p v s).ethSpi = s.ethSpi := rfl
@[simp] theorem writeOut_blink (p : PortNo) (v : Byte) : (writeOut p v s).blink = s.blink := rfl
@[simp] theorem writeOut_heart (p : PortNo) (v : Byte) : (writeOut p v s).heart = s.heart := rfl
@[simp] theorem writeOut_trace (p : PortNo) (v : Byte) : (writeOut p v s).trace = s.trace ++ [.outW p v] := rfl
@[simp] theorem writeOut_env (p : PortNo) (v : Byte) : (writeOut p v s).env = s.env := rfl
@[simp] theorem writeOut_draws (p : PortNo) (v : Byte) : (writeOut p v s).draws = s.draws := rfl
@[simp] theorem writeOut_resetIn (p : PortNo) (v : Byte) : (writeOut p v s).resetIn = s.resetIn := rfl

/-! writePinCtrl -/

@[simp] theorem writePinCtrl_cfg (p : PortNo) (pin : PinNo) (a v : Bool) : (writePinCtrl p pin a v s).cfg = s.cfg := rfl
@[simp] theorem writePinCtrl_seq (p : PortNo) (pin : PinNo) (a v : Bool) : (writePinCtrl p pin a v s).seq = s.seq := rfl
@[simp] theorem writePinCtrl_upc (p : PortNo) (pin : PinNo) (a v : Bool) : (writePinCtrl p pin a v s).upc = s.upc := rfl
@[simp] theorem writePinCtrl_mode (p : PortNo) (pin : PinNo) (a v : Bool) : (writePinCtrl p pin a v s).mode = s.mode := rfl
@[simp] theorem writePinCtrl_obsv (p : PortNo) (pin : PinNo) (a v : Bool) : (writePinCtrl p pin a v s).obsv = s.obsv := rfl
@[simp] theorem writePinCtrl_phyv (p : PortNo) (pin : PinNo) (a v : Bool) : (writePinCtrl p pin a v s).phyv = s.phyv := rfl
@[simp] theorem writePinCtrl_line (p : PortNo) (pin : PinNo) (a v : Bool) : (writePinCtrl p pin a v s).line = s.line := rfl
@[simp] theorem writePinCtrl_mask (p : PortNo) (pin : PinNo) (a v : Bool) : (writePinCtrl p pin a v s).mask = s.mask := rfl
@[simp] theorem writePinCtrl_resid (p : PortNo) (pin : PinNo) (a v : Bool) : (writePinCtrl p pin a v s).resid = s.resid := rfl
@[simp] theorem writePinCtrl_code (p : PortNo) (pin : PinNo) (a v : Bool) : (writePinCtrl p pin a v s).code = s.code := rfl
@[simp] theorem writePinCtrl_haltCause (p : PortNo) (pin : PinNo) (a v : Bool) : (writePinCtrl p pin a v s).haltCause = s.haltCause := rfl
@[simp] theorem writePinCtrl_haltWord (p : PortNo) (pin : PinNo) (a v : Bool) : (writePinCtrl p pin a v s).haltWord = s.haltWord := rfl
@[simp] theorem writePinCtrl_dir (p : PortNo) (pin : PinNo) (a v : Bool) : (writePinCtrl p pin a v s).dir = s.dir := rfl
@[simp] theorem writePinCtrl_out (p : PortNo) (pin : PinNo) (a v : Bool) : (writePinCtrl p pin a v s).out = s.out := rfl
@[simp] theorem writePinCtrl_pinctrl (p : PortNo) (pin : PinNo) (a v : Bool) : (writePinCtrl p pin a v s).pinctrl = setPort s.pinctrl p (setPin (getPort s.pinctrl p) pin ⟨a, v⟩) := rfl
@[simp] theorem writePinCtrl_dbgEn (p : PortNo) (pin : PinNo) (a v : Bool) : (writePinCtrl p pin a v s).dbgEn = s.dbgEn := rfl
@[simp] theorem writePinCtrl_vpmap (p : PortNo) (pin : PinNo) (a v : Bool) : (writePinCtrl p pin a v s).vpmap = s.vpmap := rfl
@[simp] theorem writePinCtrl_ethSpi (p : PortNo) (pin : PinNo) (a v : Bool) : (writePinCtrl p pin a v s).ethSpi = s.ethSpi := rfl
@[simp] theorem writePinCtrl_blink (p : PortNo) (pin : PinNo) (a v : Bool) : (writePinCtrl p pin a v s).blink = s.blink := rfl
@[simp] theorem writePinCtrl_heart (p : PortNo) (pin : PinNo) (a v : Bool) : (writePinCtrl p pin a v s).heart = s.heart := rfl
@[simp] theorem writePinCtrl_trace (p : PortNo) (pin : PinNo) (a v : Bool) : (writePinCtrl p pin a v s).trace = s.trace ++ [.ctrlW p pin a v] := rfl
@[simp] theorem writePinCtrl_env (p : PortNo) (pin : PinNo) (a v : Bool) : (writePinCtrl p pin a v s).env = s.env := rfl
@[simp] theorem writePinCtrl_draws (p : PortNo) (pin : PinNo) (a v : Bool) : (writePinCtrl p pin a v s).draws = s.draws := rfl
@[simp] theorem writePinCtrl_resetIn (p : PortNo) (pin : PinNo) (a v : Bool) : (writePinCtrl p pin a v s).resetIn = s.resetIn := rfl

/-! writeVpmap -/

@[simp] theorem writeVpmap_cfg (k : VPortNo) (p : PortNo) : (writeVpmap k p s).cfg = s.cfg := rfl
@[simp] theorem writeVpmap_seq (k : VPortNo) (p : PortNo) : (writeVpmap k p s).seq = s.seq := rfl
@[simp] theorem writeVpmap_upc (k : VPortNo) (p : PortNo) : (writeVpmap k p s).upc = s.upc := rfl
@[simp] theorem writeVpmap_mode (k : VPortNo) (p : PortNo) : (writeVpmap k p s).mode = s.mode := rfl
@[simp] theorem writeVpmap_obsv (k : VPortNo) (p : PortNo) : (writeVpmap k p s).obsv = s.obsv := rfl
@[simp] theorem writeVpmap_phyv (k : VPortNo) (p : PortNo) : (writeVpmap k p s).phyv = s.phyv := rfl
@[simp] theorem writeVpmap_line (k : VPortNo) (p : PortNo) : (writeVpmap k p s).line = s.line := rfl
@[simp] theorem writeVpmap_mask (k : VPortNo) (p : PortNo) : (writeVpmap k p s).mask = s.mask := rfl
@[simp] theorem writeVpmap_resid (k : VPortNo) (p : PortNo) : (writeVpmap k p s).resid = s.resid := rfl
@[simp] theorem writeVpmap_code (k : VPortNo) (p : PortNo) : (writeVpmap k p s).code = s.code := rfl
@[simp] theorem writeVpmap_haltCause (k : VPortNo) (p : PortNo) : (writeVpmap k p s).haltCause = s.haltCause := rfl
@[simp] theorem writeVpmap_haltWord (k : VPortNo) (p : PortNo) : (writeVpmap k p s).haltWord = s.haltWord := rfl
@[simp] theorem writeVpmap_dir (k : VPortNo) (p : PortNo) : (writeVpmap k p s).dir = s.dir := rfl
@[simp] theorem writeVpmap_out (k : VPortNo) (p : PortNo) : (writeVpmap k p s).out = s.out := rfl
@[simp] theorem writeVpmap_pinctrl (k : VPortNo) (p : PortNo) : (writeVpmap k p s).pinctrl = s.pinctrl := rfl
@[simp] theorem writeVpmap_dbgEn (k : VPortNo) (p : PortNo) : (writeVpmap k p s).dbgEn = s.dbgEn := rfl
@[simp] theorem writeVpmap_vpmap (k : VPortNo) (p : PortNo) : (writeVpmap k p s).vpmap = setVPort s.vpmap k p := rfl
@[simp] theorem writeVpmap_ethSpi (k : VPortNo) (p : PortNo) : (writeVpmap k p s).ethSpi = s.ethSpi := rfl
@[simp] theorem writeVpmap_blink (k : VPortNo) (p : PortNo) : (writeVpmap k p s).blink = s.blink := rfl
@[simp] theorem writeVpmap_heart (k : VPortNo) (p : PortNo) : (writeVpmap k p s).heart = s.heart := rfl
@[simp] theorem writeVpmap_trace (k : VPortNo) (p : PortNo) : (writeVpmap k p s).trace = s.trace ++ [.vpW k p] := rfl
@[simp] theorem writeVpmap_env (k : VPortNo) (p : PortNo) : (writeVpmap k p s).env = s.env := rfl
@[simp] theorem writeVpmap_draws (k : VPortNo) (p : PortNo) : (writeVpmap k p s).draws = s.draws := rfl
@[simp] theorem writeVpmap_resetIn (k : VPortNo) (p : PortNo) : (writeVpmap k p s).resetIn = s.resetIn := rfl

/-! writeEthSpi -/

@[simp] theorem writeEthSpi_cfg (b : Byte) (c t r : Bool) : (writeEthSpi b c t r s).cfg = s.cfg := rfl
@[simp] theorem writeEthSpi_seq (b : Byte) (c t r : Bool) : (writeEthSpi b c t r s).seq = s.seq := rfl
@[simp] theorem writeEthSpi_upc (b : Byte) (c t r : Bool) : (writeEthSpi b c t r s).upc = s.upc := rfl
@[simp] theorem writeEthSpi_mode (b : Byte) (c t r : Bool) : (writeEthSpi b c t r s).mode = s.mode := rfl
@[simp] theorem writeEthSpi_obsv (b : Byte) (c t r : Bool) : (writeEthSpi b c t r s).obsv = s.obsv := rfl
@[simp] theorem writeEthSpi_phyv (b : Byte) (c t r : Bool) : (writeEthSpi b c t r s).phyv = s.phyv := rfl
@[simp] theorem writeEthSpi_line (b : Byte) (c t r : Bool) : (writeEthSpi b c t r s).line = s.line := rfl
@[simp] theorem writeEthSpi_mask (b : Byte) (c t r : Bool) : (writeEthSpi b c t r s).mask = s.mask := rfl
@[simp] theorem writeEthSpi_resid (b : Byte) (c t r : Bool) : (writeEthSpi b c t r s).resid = s.resid := rfl
@[simp] theorem writeEthSpi_code (b : Byte) (c t r : Bool) : (writeEthSpi b c t r s).code = s.code := rfl
@[simp] theorem writeEthSpi_haltCause (b : Byte) (c t r : Bool) : (writeEthSpi b c t r s).haltCause = s.haltCause := rfl
@[simp] theorem writeEthSpi_haltWord (b : Byte) (c t r : Bool) : (writeEthSpi b c t r s).haltWord = s.haltWord := rfl
@[simp] theorem writeEthSpi_dir (b : Byte) (c t r : Bool) : (writeEthSpi b c t r s).dir = s.dir := rfl
@[simp] theorem writeEthSpi_out (b : Byte) (c t r : Bool) : (writeEthSpi b c t r s).out = s.out := rfl
@[simp] theorem writeEthSpi_pinctrl (b : Byte) (c t r : Bool) : (writeEthSpi b c t r s).pinctrl = s.pinctrl := rfl
@[simp] theorem writeEthSpi_dbgEn (b : Byte) (c t r : Bool) : (writeEthSpi b c t r s).dbgEn = s.dbgEn := rfl
@[simp] theorem writeEthSpi_vpmap (b : Byte) (c t r : Bool) : (writeEthSpi b c t r s).vpmap = s.vpmap := rfl
@[simp] theorem writeEthSpi_ethSpi (b : Byte) (c t r : Bool) : (writeEthSpi b c t r s).ethSpi = ⟨b, c, t, r⟩ := rfl
@[simp] theorem writeEthSpi_blink (b : Byte) (c t r : Bool) : (writeEthSpi b c t r s).blink = s.blink := rfl
@[simp] theorem writeEthSpi_heart (b : Byte) (c t r : Bool) : (writeEthSpi b c t r s).heart = s.heart := rfl
@[simp] theorem writeEthSpi_trace (b : Byte) (c t r : Bool) : (writeEthSpi b c t r s).trace = s.trace ++ [.spiW b c t r] := rfl
@[simp] theorem writeEthSpi_env (b : Byte) (c t r : Bool) : (writeEthSpi b c t r s).env = s.env := rfl
@[simp] theorem writeEthSpi_draws (b : Byte) (c t r : Bool) : (writeEthSpi b c t r s).draws = s.draws := rfl
@[simp] theorem writeEthSpi_resetIn (b : Byte) (c t r : Bool) : (writeEthSpi b c t r s).resetIn = s.resetIn := rfl

/-! disableDebug -/

@[simp] theorem disableDebug_cfg : (disableDebug s).cfg = s.cfg := rfl
@[simp] theorem disableDebug_seq : (disableDebug s).seq = s.seq := rfl
@[simp] theorem disableDebug_upc : (disableDebug s).upc = s.upc := rfl
@[simp] theorem disableDebug_mode : (disableDebug s).mode = s.mode := rfl
@[simp] theorem disableDebug_obsv : (disableDebug s).obsv = s.obsv := rfl
@[simp] theorem disableDebug_phyv : (disableDebug s).phyv = s.phyv := rfl
@[simp] theorem disableDebug_line : (disableDebug s).line = s.line := rfl
@[simp] theorem disableDebug_mask : (disableDebug s).mask = s.mask := rfl
@[simp] theorem disableDebug_resid : (disableDebug s).resid = s.resid := rfl
@[simp] theorem disableDebug_code : (disableDebug s).code = s.code := rfl
@[simp] theorem disableDebug_haltCause : (disableDebug s).haltCause = s.haltCause := rfl
@[simp] theorem disableDebug_haltWord : (disableDebug s).haltWord = s.haltWord := rfl
@[simp] theorem disableDebug_dir : (disableDebug s).dir = s.dir := rfl
@[simp] theorem disableDebug_out : (disableDebug s).out = s.out := rfl
@[simp] theorem disableDebug_pinctrl : (disableDebug s).pinctrl = s.pinctrl := rfl
@[simp] theorem disableDebug_dbgEn : (disableDebug s).dbgEn = false := rfl
@[simp] theorem disableDebug_vpmap : (disableDebug s).vpmap = s.vpmap := rfl
@[simp] theorem disableDebug_ethSpi : (disableDebug s).ethSpi = s.ethSpi := rfl
@[simp] theorem disableDebug_blink : (disableDebug s).blink = s.blink := rfl
@[simp] theorem disableDebug_heart : (disableDebug s).heart = s.heart := rfl
@[simp] theorem disableDebug_trace : (disableDebug s).trace = s.trace ++ [.keyW s.cfg.ccpKey] ++ [.dbgW] := rfl
@[simp] theorem disableDebug_env : (disableDebug s).env = s.env := rfl
@[simp] theorem disableDebug_draws : (disableDebug s).draws = s.draws := rfl
@[simp] theorem disableDebug_resetIn : (disableDebug s).resetIn = s.resetIn := rfl

/-! sample -/

@[simp] theorem sample_cfg (p : PortNo) : (sample p s).cfg = s.cfg := rfl
@[simp] theorem sample_seq (p : PortNo) : (sample p s).seq = s.seq := rfl
@[simp] theorem sample_upc (p : PortNo) : (sample p s).upc = s.upc := rfl
@[simp] theorem sample_mode (p : PortNo) : (sample p s).mode = s.mode := rfl
@[simp] theorem sample_obsv (p : PortNo) : (sample p s).obsv = s.obsv := rfl
@[simp] theorem sample_phyv (p : PortNo) : (sample p s).phyv = s.phyv := rfl
@[simp] theorem sample_line (p : PortNo) : (sample p s).line = s.line := rfl
@[simp] theorem sample_mask (p : PortNo) : (sample p s).mask = s.mask := rfl
@[simp] theorem sample_resid (p : PortNo) : (sample p s).resid = s.resid := rfl
@[simp] theorem sample_code (p : PortNo) : (sample p s).code = s.code := rfl
@[simp] theorem sample_haltCause (p : PortNo) : (sample p s).haltCause = s.haltCause := rfl
@[simp] theorem sample_haltWord (p : PortNo) : (sample p s).haltWord = s.haltWord := rfl
@[simp] theorem sample_dir (p : PortNo) : (sample p s).dir = s.dir := rfl
@[simp] theorem sample_out (p : PortNo) : (sample p s).out = s.out := rfl
@[simp] theorem sample_pinctrl (p : PortNo) : (sample p s).pinctrl = s.pinctrl := rfl
@[simp] theorem sample_dbgEn (p : PortNo) : (sample p s).dbgEn = s.dbgEn := rfl
@[simp] theorem sample_vpmap (p : PortNo) : (sample p s).vpmap = s.vpmap := rfl
@[simp] theorem sample_ethSpi (p : PortNo) : (sample p s).ethSpi = s.ethSpi := rfl
@[simp] theorem sample_blink (p : PortNo) : (sample p s).blink = s.blink := rfl
@[simp] theorem sample_heart (p : PortNo) : (sample p s).heart = s.heart := rfl
@[simp] theorem sample_trace (p : PortNo) : (sample p s).trace = s.trace ++ [.inR p (pinsNow p s) (sampled p s)] := rfl
@[simp] theorem sample_env (p : PortNo) : (sample p s).env = s.env.tail := rfl
@[simp] theorem sample_draws (p : PortNo) : (sample p s).draws = s.draws + 1 := rfl
@[simp] theorem sample_resetIn (p : PortNo) : (sample p s).resetIn = s.resetIn := rfl

/-! raiseFail -/

@[simp] theorem raiseFail_cfg (l sc e : Count) : (raiseFail l sc e s).cfg = s.cfg := rfl
@[simp] theorem raiseFail_seq (l sc e : Count) : (raiseFail l sc e s).seq = s.seq := rfl
@[simp] theorem raiseFail_upc (l sc e : Count) : (raiseFail l sc e s).upc = s.upc := rfl
@[simp] theorem raiseFail_mode (l sc e : Count) : (raiseFail l sc e s).mode = .blink := rfl
@[simp] theorem raiseFail_obsv (l sc e : Count) : (raiseFail l sc e s).obsv = s.obsv := rfl
@[simp] theorem raiseFail_phyv (l sc e : Count) : (raiseFail l sc e s).phyv = s.phyv := rfl
@[simp] theorem raiseFail_line (l sc e : Count) : (raiseFail l sc e s).line = s.line := rfl
@[simp] theorem raiseFail_mask (l sc e : Count) : (raiseFail l sc e s).mask = s.mask := rfl
@[simp] theorem raiseFail_resid (l sc e : Count) : (raiseFail l sc e s).resid = s.resid := rfl
@[simp] theorem raiseFail_code (l sc e : Count) : (raiseFail l sc e s).code = some ⟨l, sc, e⟩ := rfl
@[simp] theorem raiseFail_haltCause (l sc e : Count) : (raiseFail l sc e s).haltCause = s.haltCause := rfl
@[simp] theorem raiseFail_haltWord (l sc e : Count) : (raiseFail l sc e s).haltWord = s.haltWord := rfl
@[simp] theorem raiseFail_dir (l sc e : Count) : (raiseFail l sc e s).dir = s.dir := rfl
@[simp] theorem raiseFail_out (l sc e : Count) : (raiseFail l sc e s).out = s.out := rfl
@[simp] theorem raiseFail_pinctrl (l sc e : Count) : (raiseFail l sc e s).pinctrl = s.pinctrl := rfl
@[simp] theorem raiseFail_dbgEn (l sc e : Count) : (raiseFail l sc e s).dbgEn = s.dbgEn := rfl
@[simp] theorem raiseFail_vpmap (l sc e : Count) : (raiseFail l sc e s).vpmap = s.vpmap := rfl
@[simp] theorem raiseFail_ethSpi (l sc e : Count) : (raiseFail l sc e s).ethSpi = s.ethSpi := rfl
@[simp] theorem raiseFail_blink (l sc e : Count) : (raiseFail l sc e s).blink = some ⟨.long, 0, .off⟩ := rfl
@[simp] theorem raiseFail_heart (l sc e : Count) : (raiseFail l sc e s).heart = s.heart := rfl
@[simp] theorem raiseFail_trace (l sc e : Count) : (raiseFail l sc e s).trace = s.trace := rfl
@[simp] theorem raiseFail_env (l sc e : Count) : (raiseFail l sc e s).env = s.env := rfl
@[simp] theorem raiseFail_draws (l sc e : Count) : (raiseFail l sc e s).draws = s.draws := rfl
@[simp] theorem raiseFail_resetIn (l sc e : Count) : (raiseFail l sc e s).resetIn = s.resetIn := rfl

/-! raiseHalt -/

@[simp] theorem raiseHalt_cfg (c : HaltCause) : (raiseHalt c s).cfg = s.cfg := rfl
@[simp] theorem raiseHalt_seq (c : HaltCause) : (raiseHalt c s).seq = s.seq := rfl
@[simp] theorem raiseHalt_upc (c : HaltCause) : (raiseHalt c s).upc = s.upc := rfl
@[simp] theorem raiseHalt_mode (c : HaltCause) : (raiseHalt c s).mode = .halt := rfl
@[simp] theorem raiseHalt_obsv (c : HaltCause) : (raiseHalt c s).obsv = s.obsv := rfl
@[simp] theorem raiseHalt_phyv (c : HaltCause) : (raiseHalt c s).phyv = s.phyv := rfl
@[simp] theorem raiseHalt_line (c : HaltCause) : (raiseHalt c s).line = s.line := rfl
@[simp] theorem raiseHalt_mask (c : HaltCause) : (raiseHalt c s).mask = s.mask := rfl
@[simp] theorem raiseHalt_resid (c : HaltCause) : (raiseHalt c s).resid = s.resid := rfl
@[simp] theorem raiseHalt_code (c : HaltCause) : (raiseHalt c s).code = s.code := rfl
@[simp] theorem raiseHalt_haltCause (c : HaltCause) : (raiseHalt c s).haltCause = c := rfl
@[simp] theorem raiseHalt_haltWord (c : HaltCause) : (raiseHalt c s).haltWord = s.haltWord := rfl
@[simp] theorem raiseHalt_dir (c : HaltCause) : (raiseHalt c s).dir = s.dir := rfl
@[simp] theorem raiseHalt_out (c : HaltCause) : (raiseHalt c s).out = s.out := rfl
@[simp] theorem raiseHalt_pinctrl (c : HaltCause) : (raiseHalt c s).pinctrl = s.pinctrl := rfl
@[simp] theorem raiseHalt_dbgEn (c : HaltCause) : (raiseHalt c s).dbgEn = s.dbgEn := rfl
@[simp] theorem raiseHalt_vpmap (c : HaltCause) : (raiseHalt c s).vpmap = s.vpmap := rfl
@[simp] theorem raiseHalt_ethSpi (c : HaltCause) : (raiseHalt c s).ethSpi = s.ethSpi := rfl
@[simp] theorem raiseHalt_blink (c : HaltCause) : (raiseHalt c s).blink = s.blink := rfl
@[simp] theorem raiseHalt_heart (c : HaltCause) : (raiseHalt c s).heart = s.heart := rfl
@[simp] theorem raiseHalt_trace (c : HaltCause) : (raiseHalt c s).trace = s.trace ++ [.halt c] := rfl
@[simp] theorem raiseHalt_env (c : HaltCause) : (raiseHalt c s).env = s.env := rfl
@[simp] theorem raiseHalt_draws (c : HaltCause) : (raiseHalt c s).draws = s.draws := rfl
@[simp] theorem raiseHalt_resetIn (c : HaltCause) : (raiseHalt c s).resetIn = s.resetIn := rfl

/-! haltIllegal -/

@[simp] theorem haltIllegal_cfg (w : Word) : (haltIllegal w s).cfg = s.cfg := rfl
@[simp] theorem haltIllegal_seq (w : Word) : (haltIllegal w s).seq = s.seq := rfl
@[simp] theorem haltIllegal_upc (w : Word) : (haltIllegal w s).upc = s.upc := rfl
@[simp] theorem haltIllegal_mode (w : Word) : (haltIllegal w s).mode = .halt := rfl
@[simp] theorem haltIllegal_obsv (w : Word) : (haltIllegal w s).obsv = s.obsv := rfl
@[simp] theorem haltIllegal_phyv (w : Word) : (haltIllegal w s).phyv = s.phyv := rfl
@[simp] theorem haltIllegal_line (w : Word) : (haltIllegal w s).line = s.line := rfl
@[simp] theorem haltIllegal_mask (w : Word) : (haltIllegal w s).mask = s.mask := rfl
@[simp] theorem haltIllegal_resid (w : Word) : (haltIllegal w s).resid = s.resid := rfl
@[simp] theorem haltIllegal_code (w : Word) : (haltIllegal w s).code = s.code := rfl
@[simp] theorem haltIllegal_haltCause (w : Word) : (haltIllegal w s).haltCause = .illegal := rfl
@[simp] theorem haltIllegal_haltWord (w : Word) : (haltIllegal w s).haltWord = some w := rfl
@[simp] theorem haltIllegal_dir (w : Word) : (haltIllegal w s).dir = s.dir := rfl
@[simp] theorem haltIllegal_out (w : Word) : (haltIllegal w s).out = s.out := rfl
@[simp] theorem haltIllegal_pinctrl (w : Word) : (haltIllegal w s).pinctrl = s.pinctrl := rfl
@[simp] theorem haltIllegal_dbgEn (w : Word) : (haltIllegal w s).dbgEn = s.dbgEn := rfl
@[simp] theorem haltIllegal_vpmap (w : Word) : (haltIllegal w s).vpmap = s.vpmap := rfl
@[simp] theorem haltIllegal_ethSpi (w : Word) : (haltIllegal w s).ethSpi = s.ethSpi := rfl
@[simp] theorem haltIllegal_blink (w : Word) : (haltIllegal w s).blink = s.blink := rfl
@[simp] theorem haltIllegal_heart (w : Word) : (haltIllegal w s).heart = s.heart := rfl
@[simp] theorem haltIllegal_trace (w : Word) : (haltIllegal w s).trace = s.trace ++ [.halt .illegal] := rfl
@[simp] theorem haltIllegal_env (w : Word) : (haltIllegal w s).env = s.env := rfl
@[simp] theorem haltIllegal_draws (w : Word) : (haltIllegal w s).draws = s.draws := rfl
@[simp] theorem haltIllegal_resetIn (w : Word) : (haltIllegal w s).resetIn = s.resetIn := rfl

end Sys2Proof.Laws
end

