-- ==== Sys2Proof/Laws/Ops.lean ====
section
/-! SUPPORT. One lemma per shared operation that says everything it can do, and the laws of the register files. -/

namespace Sys2Proof.Laws

open Sys2Proof.Machine

/-! Register files: reading after writing. -/

@[simp] theorem getPort_setPort_self {α : Type} (v : Vector α 16) (p : PortNo) (x : α) :
    getPort (setPort v p x) p = x := by simp [getPort, setPort]

theorem getPort_setPort_other {α : Type} (v : Vector α 16) (p q : PortNo) (x : α) (h : p ≠ q) :
    getPort (setPort v p x) q = getPort v q := by
  have : p.toNat ≠ q.toNat := fun e => h (BitVec.eq_of_toNat_eq e)
  simp [getPort, setPort, this]

theorem getPort_setPort {α : Type} (v : Vector α 16) (p q : PortNo) (x : α) :
    getPort (setPort v p x) q = if p = q then x else getPort v q := by
  by_cases h : p = q
  · subst h; simp
  · simp [h, getPort_setPort_other]

@[simp] theorem setPort_setPort {α : Type} (v : Vector α 16) (p : PortNo) (x y : α) :
    setPort (setPort v p x) p y = setPort v p y := by simp [setPort]

@[simp] theorem setPort_getPort {α : Type} (v : Vector α 16) (p : PortNo) : setPort v p (getPort v p) = v := by
  simp [setPort, getPort]

@[simp] theorem getPort_replicate {α : Type} (x : α) (p : PortNo) : getPort (Vector.replicate 16 x) p = x := by
  simp [getPort]

theorem getPin_setPin {α : Type} (v : Vector α 8) (i j : PinNo) (x : α) :
    getPin (setPin v i x) j = if i = j then x else getPin v j := by
  by_cases h : i = j
  · subst h; simp [getPin, setPin]
  · have : i.toNat ≠ j.toNat := fun e => h (BitVec.eq_of_toNat_eq e)
    simp [getPin, setPin, this, h]

@[simp] theorem getPin_replicate {α : Type} (x : α) (i : PinNo) : getPin (Vector.replicate 8 x) i = x := by
  simp [getPin]

theorem getVPort_setVPort {α : Type} (v : Vector α 4) (k j : VPortNo) (x : α) :
    getVPort (setVPort v k x) j = if k = j then x else getVPort v j := by
  by_cases h : k = j
  · subst h; simp [getVPort, setVPort]
  · have : k.toNat ≠ j.toNat := fun e => h (BitVec.eq_of_toNat_eq e)
    simp [getVPort, setVPort, this, h]

@[simp] theorem getVPort_replicate {α : Type} (x : α) (k : VPortNo) : getVPort (Vector.replicate 4 x) k = x := by
  simp [getVPort]

/-! The mask updates of one port register. -/

theorem setDirBits_eq (p : PortNo) (m : Byte) (s : State) :
    setDirBits p m s =
      { s with
        dir := setPort s.dir p (getPort s.dir p ||| m)
        trace := s.trace ++ [.dirW p (getPort s.dir p ||| m)] } := rfl

theorem clearDirBits_eq (p : PortNo) (m : Byte) (s : State) :
    clearDirBits p m s =
      { s with
        dir := setPort s.dir p (getPort s.dir p &&& ~~~m)
        trace := s.trace ++ [.dirW p (getPort s.dir p &&& ~~~m)] } := rfl

theorem setOutBits_eq (p : PortNo) (m : Byte) (s : State) :
    setOutBits p m s =
      { s with
        out := setPort s.out p (getPort s.out p ||| m)
        trace := s.trace ++ [.outW p (getPort s.out p ||| m)] } := rfl

theorem clearOutBits_eq (p : PortNo) (m : Byte) (s : State) :
    clearOutBits p m s =
      { s with
        out := setPort s.out p (getPort s.out p &&& ~~~m)
        trace := s.trace ++ [.outW p (getPort s.out p &&& ~~~m)] } := rfl

theorem ledOn_eq (s : State) : ledOn s = setDirBits s.cfg.led.port (lineMaskOf s.cfg.led) s := rfl

theorem ledOff_eq (s : State) : ledOff s = clearDirBits s.cfg.led.port (lineMaskOf s.cfg.led) s := rfl

/-! Reads of a port. -/

@[simp] theorem pinsNow_cons (p : PortNo) (s : State) (v : Byte) (rest : List Byte) (h : s.env = v :: rest) :
    pinsNow p s = v := by simp [pinsNow, h]

theorem pinsNow_congr (p : PortNo) {s t : State} (he : t.env = s.env) (hd : t.draws = s.draws) :
    pinsNow p t = pinsNow p s := by simp [pinsNow, he, hd]

theorem sampled_congr (p : PortNo) {s t : State} (he : t.env = s.env) (hd : t.draws = s.draws)
    (hp : t.pinctrl = s.pinctrl) : sampled p t = sampled p s := by
  simp [sampled, pinsNow_congr p he hd, hp]

/-- ReadPHY touches OUT, the trace and the draws, and nothing else (42_read_primitive.md R140). -/
theorem phyEnable_eq (s : State) :
    phyEnable s = { s with out := (phyEnable s).out, trace := (phyEnable s).trace } := by
  unfold phyEnable; split <;> rfl

theorem phyDisable_eq (s : State) :
    phyDisable s = { s with out := (phyDisable s).out, trace := (phyDisable s).trace } := by
  unfold phyDisable; split <;> rfl

theorem readPhy_state_eq (s : State) :
    (readPhy s).2 =
      { s with
        out := (readPhy s).2.out
        trace := (readPhy s).2.trace
        env := s.env.tail
        draws := s.draws + 1 } := by
  unfold readPhy
  rw [phyDisable_eq, phyEnable_eq]
  rfl

/-- The value ReadPHY returns does not depend on the clock edges before the sample. -/
theorem readPhy_value (s : State) : (readPhy s).1 = reorder s.cfg (sampled s.cfg.pPhyd s) := by
  have h := phyEnable_eq s
  simp only [readPhy]
  rw [sampled_congr s.cfg.pPhyd (s := s) (t := phyEnable s)]
  · rw [h]
  · rw [h]
  · rw [h]

theorem readPhy_out (s : State) :
    (readPhy s).2.out =
      if s.cfg.clockedRead then
        setPort (phyEnable s).out s.cfg.phyOe.port
          (getPort (phyEnable s).out s.cfg.phyOe.port ||| lineMaskOf s.cfg.phyOe)
      else s.out := by
  have hc : (sample s.cfg.pPhyd (phyEnable s)).cfg = s.cfg := by rw [sample_cfg, phyEnable_eq]
  simp only [readPhy, phyDisable, hc]
  split
  · simp [setOutBits_eq]
  · next h => simp [phyEnable, h]

/-! The composite reads and drives of the self-test. -/

theorem observe_eq (s : State) :
    observe s =
      { s with
        obsv := some (sampled s.cfg.pObs s)
        env := s.env.tail
        draws := s.draws + 1
        trace := s.trace ++ [.inR s.cfg.pObs (pinsNow s.cfg.pObs s) (sampled s.cfg.pObs s)] } := rfl

theorem driveLine_eq (n : BitVec 3) (s : State) :
    driveLine n s =
      { s with
        line := some (lineNumber n)
        mask := some (lineMask n)
        dir := setPort s.dir s.cfg.pObs (getPort s.dir s.cfg.pObs ||| lineMask n)
        trace := s.trace ++ [.dirW s.cfg.pObs (getPort s.dir s.cfg.pObs ||| lineMask n)] ++
          [.wait (.span s.cfg.tSettle)] } := rfl

theorem readBus_eq (s : State) :
    readBus s =
      { s with
        phyv := some (readPhy s).1
        out := (readPhy s).2.out
        trace := (readPhy s).2.trace
        env := s.env.tail
        draws := s.draws + 1 } := by
  unfold readBus
  rw [readPhy_state_eq]

theorem raiseShort_eq (f : Count) (n : BitVec 3) (v : Byte) (s : State) :
    raiseShort f n v s =
      { s with
        resid := some (v ^^^ lineMask n)
        code := some ⟨f, lineNumber n, lsbenc (v ^^^ lineMask n)⟩
        mode := .blink
        blink := some ⟨.long, 0, .off⟩ } := rfl

/-! The views from outside. -/

/-- A halt event is no new point of a run. -/
@[simp] theorem liveEvents_halt (t : List Event) (c : HaltCause) : liveEvents (t ++ [.halt c]) = liveEvents t := by
  induction t with
  | nil => rfl
  | cons e rest ih => cases e <;> simp [liveEvents, ih]

@[simp] theorem ledLit_raiseHalt (c : HaltCause) (s : State) : ledLit (raiseHalt c s) = ledLit s := by
  simp [ledLit]

@[simp] theorem driven_raiseHalt (c : HaltCause) (s : State) (p : PortNo) (i : PinNo) :
    driven (raiseHalt c s) p i = driven s p i := by simp [driven]

theorem ledLit_dark {s : State} (hd : (getPort s.dir s.cfg.led.port).getLsbD s.cfg.led.pin.toNat = false) :
    ledLit s = false := by simp [ledLit, hd]

theorem ledLit_lit {s : State} (hd : (getPort s.dir s.cfg.led.port).getLsbD s.cfg.led.pin.toNat = true)
    (ho : (getPort s.out s.cfg.led.port).getLsbD s.cfg.led.pin.toNat = false) : ledLit s = true := by
  simp [ledLit, hd, ho]

/-! The decode check. -/

theorem legalOrHalt_legal (i : Instr) (s t : State) (h : i.wf s.cfg.nports = true) :
    legalOrHalt i s t = .next t := by simp [legalOrHalt, h]

theorem legalOrHalt_illegal (i : Instr) (s t : State) (h : i.wf s.cfg.nports = false) :
    legalOrHalt i s t = .next (haltIllegal (encode i) s) := by simp [legalOrHalt, h]

/-- If the decode check answers a next state, it is the effect or the halt, as the operands decide. -/
theorem legalOrHalt_next {i : Instr} {s t u : State} (h : legalOrHalt i s t = .next u) :
    (i.wf s.cfg.nports = true ∧ u = t) ∨ (i.wf s.cfg.nports = false ∧ u = haltIllegal (encode i) s) := by
  unfold legalOrHalt at h
  split at h
  · next hw => exact .inl ⟨hw, by simpa using h.symm⟩
  · next hw => exact .inr ⟨by simpa using hw, by simpa using h.symm⟩

/-! The exceptions. -/

theorem haltIllegal_eq (w : Word) (s : State) :
    haltIllegal w s =
      { s with
        haltWord := some w
        haltCause := .illegal
        mode := .halt
        trace := s.trace ++ [.halt .illegal] } := rfl

/-! The loops: every part of a loop leaves the step counter, OUT and the pin controls alone. -/

theorem blinkPart_eq (c : FailCode) (b : BlinkPos) (s : State) :
    blinkPart c b s =
      { s with
        dir := (blinkPart c b s).dir
        trace := (blinkPart c b s).trace
        blink := (blinkPart c b s).blink } := by
  unfold blinkPart
  split
  · rfl
  · split <;> rfl

theorem heartPart_eq (h : HeartPos) (s : State) :
    heartPart h s =
      { s with
        dir := (heartPart h s).dir
        trace := (heartPart h s).trace
        heart := (heartPart h s).heart } := by
  unfold heartPart
  split <;> rfl

/-- In BLINK with a code and a position, a step is the next part of the loop. -/
theorem blinkStep_some {s : State} {c : FailCode} {b : BlinkPos} (hc : s.code = some c) (hb : s.blink = some b) :
    blinkStep s = .next (blinkPart c b s) := by simp [blinkStep, hc, hb]

/-- In HEART with a position, a step is the next part of the loop. -/
theorem heartStep_some {s : State} {h : HeartPos} (hh : s.heart = some h) : heartStep s = .next (heartPart h s) := by
  simp [heartStep, hh]

/-! The step. -/

theorem step_of_boot {s : State} (h : bootRefusal s = none) : step s = underReset s (modeStep s) := by
  simp [step, h]

theorem underReset_none {s : State} (r : Result) (h : s.resetIn = []) : underReset s r = r := by
  simp [underReset, h]

/-- With no reset input pending, a step of a machine that may run is the step MODE selects. -/
theorem step_eq_modeStep {s : State} (hb : bootRefusal s = none) (hr : s.resetIn = []) : step s = modeStep s := by
  rw [step_of_boot hb, underReset_none _ hr]

theorem step_refused {s : State} {r : Refusal} (h : bootRefusal s = some r) : step s = .refused r := by
  simp [step, h]

/-- If a step answers a next state, the machine may run, and either no reset was taken or the state is a reset one. -/
theorem step_next {s t : State} (h : step s = .next t) :
    bootRefusal s = none ∧
      ((∃ u r, modeStep s = .next u ∧ t = { u with resetIn := r } ∧ (s.resetIn = [] → t = u)) ∨
        ∃ events, t = takeReset events s ∧
          (events = [] ∨ ∃ u k, modeStep s = .next u ∧ events = (newEvents s u).take k)) := by
  unfold step at h
  split at h
  · cases h
  · next hb =>
    refine ⟨hb, ?_⟩
    unfold underReset at h
    split at h
    · next hn => exact .inl ⟨t, t.resetIn, h, rfl, fun _ => rfl⟩
    · cases h; exact .inr ⟨[], rfl, .inl rfl⟩
    · next k rest hk =>
      split at h
      · next u hu =>
        split at h
        · cases h; exact .inr ⟨_, rfl, .inr ⟨u, k + 1, hu, rfl⟩⟩
        · cases h; exact .inl ⟨u, _, hu, rfl, by simp [hk]⟩
      · cases h
      · cases h

end Sys2Proof.Laws
end

