-- ==== Sys2Proof/Laws/PerInstr.lean ====
section
/-! SUPPORT. A law stated per instruction: the word of every instruction matches its row of spec/opcode_table.json, whose mask
and match columns stand here as the table gives them. -/

namespace Sys2Proof.Laws.TableRow

/-- The mask and the match of an instruction's row. -/
def row : Instr → Word × Word
  | .nop => (0xFFFF, 0x0000)
  | .dbgoff => (0xFFFF, 0x1000)
  | .vpmap _ _ => (0xFFC0, 0x2000)
  | .dirset _ _ => (0xF000, 0x3000)
  | .dirclr _ _ => (0xF000, 0x4000)
  | .outset _ _ => (0xF000, 0x5000)
  | .outclr _ _ => (0xF000, 0x6000)
  | .pincfg _ _ _ _ => (0xF007, 0x7000)
  | .delay _ _ => (0xF000, 0x8000)
  | .spicfg _ _ _ _ => (0xF800, 0x9000)
  | .rdphy => (0xFFFF, 0xA000)
  | .idlechk => (0xFFFF, 0xB000)
  | .linetest _ => (0xFFF8, 0xC000)
  | .fail _ _ _ => (0xF000, 0xD000)
  | .heartbeat => (0xFFFF, 0xE000)
  | .reserved _ => (0xF000, 0xF000)

/-- The word an instruction encodes to has the row's fixed bits. -/
def Statement (i : Instr) : Prop := encode i &&& (row i).1 = (row i).2

theorem nop : Statement .nop := rfl

theorem dbgoff : Statement .dbgoff := rfl

theorem vpmap (k : VPortNo) (p : PortNo) : Statement (.vpmap k p) := by
  refine BitVec.eq_of_getLsbD_eq fun i hi => ?_
  interval_cases i <;> simp [row, encode, place]

theorem dirset (p : PortNo) (m : Byte) : Statement (.dirset p m) := by
  refine BitVec.eq_of_getLsbD_eq fun i hi => ?_
  interval_cases i <;> simp [row, encode, place]

theorem dirclr (p : PortNo) (m : Byte) : Statement (.dirclr p m) := by
  refine BitVec.eq_of_getLsbD_eq fun i hi => ?_
  interval_cases i <;> simp [row, encode, place]

theorem outset (p : PortNo) (m : Byte) : Statement (.outset p m) := by
  refine BitVec.eq_of_getLsbD_eq fun i hi => ?_
  interval_cases i <;> simp [row, encode, place]

theorem outclr (p : PortNo) (m : Byte) : Statement (.outclr p m) := by
  refine BitVec.eq_of_getLsbD_eq fun i hi => ?_
  interval_cases i <;> simp [row, encode, place]

theorem pincfg (p : PortNo) (pin : PinNo) (a v : Bool) : Statement (.pincfg p pin a v) := by
  refine BitVec.eq_of_getLsbD_eq fun i hi => ?_
  interval_cases i <;> simp [row, encode, place, placeBit]

theorem delay (u : TimeUnit) (n : BitVec 11) : Statement (.delay u n) := by
  cases u <;> refine BitVec.eq_of_getLsbD_eq fun i hi => ?_
  all_goals interval_cases i <;> simp [row, encode, place, placeBit, unitBit]

theorem spicfg (b : Byte) (c t r : Bool) : Statement (.spicfg b c t r) := by
  refine BitVec.eq_of_getLsbD_eq fun i hi => ?_
  interval_cases i <;> simp [row, encode, place, placeBit]

theorem rdphy : Statement .rdphy := rfl

theorem idlechk : Statement .idlechk := rfl

theorem linetest (n : BitVec 3) : Statement (.linetest n) := by
  refine BitVec.eq_of_getLsbD_eq fun i hi => ?_
  interval_cases i <;> simp [row, encode, place]

theorem fail (l sc e : Count) : Statement (.fail l sc e) := by
  refine BitVec.eq_of_getLsbD_eq fun i hi => ?_
  interval_cases i <;> simp [row, encode, place]

theorem heartbeat : Statement .heartbeat := rfl

theorem reserved (x : BitVec 12) : Statement (.reserved x) := by
  refine BitVec.eq_of_getLsbD_eq fun i hi => ?_
  interval_cases i <;> simp [row, encode, place]

end Sys2Proof.Laws.TableRow
end

