-- ==== Sys2Proof/Tests/Slice0.lean ====
section
/-! SUPPORT. Tests of one step each, with expected results from the spec's own examples (95_test_vectors.md and the rules), and
for every statement with hypotheses a named state that meets them. -/

namespace Sys2Proof.Tests

open Sys2Proof.Machine Sys2Proof.Safety

/-! Small states. -/

/-- A reference board with every flag clear that runs some words. -/
def board (seq : List Word) : State := State.initial Config.reference seq

/-- The reference binding with every flag set (45_post_sequence.md R211). -/
def allFlags : Config :=
  { Config.reference with
    clockedRead := true
    bitReverse := true
    inputInvert := true
    hasEth := true
    hasStorage := true }

/-- One part of the state a step answers. -/
def peek {α : Type} (r : Result) (f : State → α) : Option α :=
  match r with
  | .next t => some (f t)
  | .fault _ => none
  | .refused _ => none

/-- Setting one port register by hand. -/
def withDir (p : PortNo) (v : Byte) (s : State) : State := { s with dir := setPort s.dir p v }

/-- Setting one port's levels by hand. -/
def withOut (p : PortNo) (v : Byte) (s : State) : State := { s with out := setPort s.out p v }

/-- Every INVEN bit of the PHY data port set. -/
def inverted (s : State) : State :=
  { s with pinctrl := setPort s.pinctrl s.cfg.pPhyd (Vector.replicate 8 ⟨true, true⟩) }

/-! Well-formedness: one term refused for each check (30_encoding.md R84). -/

theorem test_wf_port_too_high : (Instr.dirset 6 0xFF).wf 6 = false := by decide
theorem test_wf_vpmap_port_too_high : (Instr.vpmap 3 6).wf 6 = false := by decide
theorem test_wf_pincfg_port_too_high : (Instr.pincfg 15 0 true true).wf 6 = false := by decide
theorem test_wf_long_count_ten : (Instr.fail 10 0 0).wf 6 = false := by decide
theorem test_wf_short_count_ten : (Instr.fail 0 10 0).wf 6 = false := by decide
theorem test_wf_extra_count_fifteen : (Instr.fail 0 0 15).wf 6 = false := by decide
theorem test_wf_top_values : (Instr.fail 9 9 9).wf 6 = true ∧ (Instr.dirset 5 0).wf 6 = true := by decide

/-! Decoding: words written bit by bit from the patterns of 30_encoding.md R83 (95_test_vectors.md section 2.1). -/

theorem test_decode_nop : decodeTableWord 16 0b0000000000000000 = some .nop := by decide
theorem test_decode_dbgoff : decodeTableWord 16 0b0001000000000000 = some .dbgoff := by decide
theorem test_decode_vpmap : decodeTableWord 16 0b0010000000110101 = some (.vpmap 3 5) := by decide
theorem test_decode_dirset : decodeTableWord 16 0b0011010111111111 = some (.dirset 5 0xFF) := by decide
theorem test_decode_dirclr : decodeTableWord 16 0b0100000000000000 = some (.dirclr 0 0) := by decide
theorem test_decode_outset : decodeTableWord 16 0b0101010100000101 = some (.outset 5 5) := by decide
theorem test_decode_outclr : decodeTableWord 16 0b0110001100000001 = some (.outclr 3 1) := by decide
theorem test_decode_pincfg : decodeTableWord 16 0b0111010111101000 = some (.pincfg 5 7 false true) := by decide
theorem test_decode_delay : decodeTableWord 16 0b1000100111110100 = some (.delay .ms 500) := by decide
theorem test_decode_delay_us : decodeTableWord 16 0b1000000000110010 = some (.delay .us 50) := by decide
theorem test_decode_spicfg : decodeTableWord 16 0b1001011000000011 = some (.spicfg 3 false true true) := by decide
theorem test_decode_rdphy : decodeTableWord 16 0b1010000000000000 = some .rdphy := by decide
theorem test_decode_idlechk : decodeTableWord 16 0b1011000000000000 = some .idlechk := by decide
theorem test_decode_linetest : decodeTableWord 16 0b1100000000000111 = some (.linetest 7) := by decide
theorem test_decode_fail : decodeTableWord 16 0b1101001001010100 = some (.fail 2 5 4) := by decide
theorem test_decode_heartbeat : decodeTableWord 16 0b1110000000000000 = some .heartbeat := by decide
theorem test_decode_reserved : decodeTableWord 16 0b1111000100100011 = some (.reserved 0x123) := by decide

/-- ILLEGAL words of 95_test_vectors.md section 2.1, one for each must-be-zero field, port check and count check. -/
theorem test_decode_rejects :
    ([0x0001, 0x1010, 0x2006, 0x2040, 0x3600, 0x7001, 0x9800, 0xA001, 0xB100, 0xC008, 0xDA00, 0xD0A0, 0xD00F,
      0xE001].map (decodeTableWord 16)).all Option.isNone = true := by decide

/-! One step of each micro-op. -/

/-- 95 section 2.2. -/
theorem test_nop : peek (exec .nop { board [0] with upc := 3 }) (fun t => (t.upc, t.trace)) = some (4, []) := by decide

/-- 95 section 2.2: the events and DBG_EN. -/
theorem test_dbgoff :
    peek (exec .dbgoff (board [0])) (fun t => (t.trace, t.dbgEn, t.upc)) =
      some ([.keyW Config.reference.ccpKey, .dbgW], false, 1) := rfl

/-- 95 section 2.2: the later write wins. -/
theorem test_vpmap_later_wins :
    peek (exec (.vpmap 1 5) { board [0] with vpmap := setVPort (board [0]).vpmap 1 3 })
      (fun t => (getVPort t.vpmap 1, t.trace)) = some (5, [.vpW 1 5]) := by decide

/-- 95 section 2.2. -/
theorem test_delay :
    peek (exec (.delay .us 50) (board [0])) (fun t => (t.trace, t.upc)) = some ([.wait (.span ⟨50, .us⟩)], 1) := by decide

/-- 95 section 2.3. -/
theorem test_dirset :
    peek (exec (.dirset 0 0x10) (withDir 0 0x01 (board [0]))) (fun t => (getPort t.dir 0, t.trace)) =
      some (0x11, [.dirW 0 0x11]) := by decide

/-- 95 section 2.3: a mask of 0 is still recorded. -/
theorem test_dirset_zero_mask :
    peek (exec (.dirset 0 0) (withDir 0 0x11 (board [0]))) (fun t => (getPort t.dir 0, t.trace)) =
      some (0x11, [.dirW 0 0x11]) := by decide

/-- 95 section 2.3. -/
theorem test_dirclr :
    peek (exec (.dirclr 0 0x01) (withDir 0 0x11 (board [0]))) (fun t => (getPort t.dir 0, t.trace)) =
      some (0x10, [.dirW 0 0x10]) := by decide

/-- 95 section 2.3. -/
theorem test_outset :
    peek (exec (.outset 5 0x05) (board [0])) (fun t => (getPort t.out 5, t.trace)) =
      some (0x05, [.outW 5 0x05]) := by decide

/-- 95 section 2.3. -/
theorem test_outclr :
    peek (exec (.outclr 5 0x01) (withOut 5 0x05 (board [0]))) (fun t => (getPort t.out 5, t.trace)) =
      some (0x04, [.outW 5 0x04]) := by decide

/-- 95 section 2.3: both fields are written. -/
theorem test_pincfg_clears_inven :
    peek (exec (.pincfg 1 0 true false) (inverted (board [0])))
      (fun t => (getPin (getPort t.pinctrl 1) 0, getPin (getPort t.pinctrl 1) 1, t.trace)) =
      some (⟨true, false⟩, ⟨true, true⟩, [.ctrlW 1 0 true false]) := by decide

/-- 95 section 2.3. -/
theorem test_spicfg :
    peek (exec (.spicfg 3 false true true) (board [0])) (fun t => (t.ethSpi, t.trace)) =
      some (⟨3, false, true, true⟩, [.spiW 3 false true true]) := by decide

/-- 95 section 2.4, flags (1,1,1). -/
theorem test_rdphy_clocked :
    peek (exec .rdphy { inverted (withOut 2 0x04 (State.initial allFlags [0])) with env := [0x7F] })
      (fun t => (t.phyv, getPort t.out 2, t.trace)) =
      some (some 0x01, 0x04, [.outW 2 0x06, .outW 2 0x02, .outW 2 0x00, .inR 1 0x7F 0x80, .outW 2 0x04]) := by decide

/-- 95 section 2.4, flags (0,0,1). -/
theorem test_rdphy_inverted :
    peek (exec .rdphy { inverted (board [0]) with env := [0x12] }) (fun t => (t.phyv, t.trace)) =
      some (some 0xED, [.inR 1 0x12 0xED]) := by decide

/-- 95 V3. -/
theorem test_idlechk_fails :
    peek (exec .idlechk { board [0] with env := [0x08], upc := 16 }) (fun t => (t.obsv, t.code, t.mode, t.upc)) =
      some (some 0x08, some ⟨1, 4, 0⟩, .blink, 16) := by decide

/-- 95 V3. -/
theorem test_idlechk_passes :
    peek (exec .idlechk { board [0] with env := [0], upc := 16 }) (fun t => (t.obsv, t.code, t.mode, t.upc)) =
      some (some 0, none, .run, 17) := by decide

/-- 95 V4: the output-readback short, the line left driven. -/
theorem test_linetest_output_short :
    peek (exec (.linetest 4) { withOut 0 0xFF (board [0]) with env := [0x28] })
      (fun t => (t.line, t.mask, t.resid, t.code, getPort t.dir 0)) =
      some (some 5, some 0x10, some 0x38, some ⟨2, 5, 4⟩, 0x10) := by decide

/-- 95 V5: the input-bus short. -/
theorem test_linetest_input_short :
    peek (exec (.linetest 4) { withOut 0 0xFF (board [0]) with env := [0x10, 0x28] })
      (fun t => (t.phyv, t.resid, t.code, t.trace)) =
      some (some 0x28, some 0x38, some ⟨3, 5, 4⟩,
        [.dirW 0 0x10, .wait (.span ⟨1, .us⟩), .inR 0 0x10 0x10, .inR 1 0x28 0x28]) := by decide

/-- 95 section 2.6. -/
theorem test_fail :
    peek (exec (.fail 2 5 4) { board [0] with upc := 2 }) (fun t => (t.code, t.mode, t.upc)) =
      some (some ⟨2, 5, 4⟩, .blink, 2) := by decide

/-- 44_signaling.md R190. -/
theorem test_heartbeat :
    peek (exec .heartbeat { board [0] with upc := 26 }) (fun t => (t.mode, t.heart.map HeartPos.cnt, t.upc)) =
      some (.heart, some 0, 26) := by decide

/-- 95 section 2.7. -/
theorem test_reserved :
    peek (exec (.reserved 0x123) { board [0] with upc := 4 }) (fun t => (t.haltWord, t.haltCause, t.mode, t.upc)) =
      some (some 0xF123, .illegal, .halt, 4) := by decide

/-! The machine around the micro-ops. -/

/-- 95 V6: the pulse of counter value 16 begins with half a period. -/
theorem test_heart_midpoint :
    peek (heartStep { board [0] with heart := some ⟨16, .off⟩ }) (fun t => t.trace) =
      some [.dirW 3 0x01, .wait (.heartUnits 16)] := by decide

/-- 95 V6: after counter value 32 comes 0. -/
theorem test_heart_wraps :
    peek (heartStep { withDir 3 0x01 (board [0]) with heart := some ⟨32, .on⟩ }) (fun t => (t.heart, t.trace)) =
      some (some ⟨0, .off⟩, [.dirW 3 0x00, .wait (.heartUnits 32)]) := by decide

/-- 95 section 2.6: with no long flash the period starts with the pause. -/
theorem test_blink_empty_group :
    peek (blinkStep { board [0] with code := some ⟨0, 0, 9⟩, blink := some ⟨.long, 0, .off⟩ }) (fun t => t.trace) =
      some [.wait (.span ⟨1500, .ms⟩)] := by decide

/-- 95 section 2.7: the overrun after DBGOFF. -/
theorem test_overrun :
    peek (step { board [0x1000] with upc := 1 }) (fun t => (t.haltCause, t.haltWord, t.upc, t.mode)) =
      some (.overrun, none, 1, .halt) := by decide

/-- 95 section 2.2: refused before running. -/
theorem test_late_dbgoff_refused :
    bootRefusal (board [0x0000, 0x1000]) = some .sequenceNotWellFormed ∧
      bootRefusal (board [0x1000, 0x1000]) = some .sequenceNotWellFormed := by decide

/-- 95 P7: a reset inside the blink loop, after the first wait. -/
theorem test_reset_in_blink :
    peek (step { board [0x1000] with mode := .blink, code := some ⟨1, 1, 0⟩, blink := some ⟨.long, 0, .off⟩, resetIn := [1] })
      (fun t => (t.trace, t.mode, t.code, getPort t.dir 3)) =
      some ([.dirW 3 0x01, .reset], .run, none, 0) := by decide

/-- 70_reset_and_hazards.md R240: a reset may follow another, here in HALT and with the next one due after two more events. -/
theorem test_reset_then_another :
    peek (step { board [0] with mode := .halt, haltCause := .overrun, resetIn := [0, 2] })
      (fun t => (t.trace, t.mode, t.haltCause, t.resetIn)) = some ([.reset], .run, .none, [2]) := by decide

/-- 45_post_sequence.md R210. -/
theorem test_standard_sequence_flags_clear :
    standardSequence Config.reference =
      [0x1000, 0x2000, 0x2011, 0x2022, 0x2033, 0x6301, 0x40FF, 0x50FF, 0x7110, 0x7130, 0x7150, 0x7170, 0x7190, 0x71B0,
        0x71D0, 0x71F0, 0xB000, 0x40FF] ++
      [0xC000, 0xC001, 0xC002, 0xC003, 0xC004, 0xC005, 0xC006, 0xC007, 0xE000] := by decide

/-- 45_post_sequence.md R211, indexes 8 to 41. -/
theorem test_standard_sequence_flags_set :
    ((standardSequence allFlags).drop 8).take 34 =
      [0x6201, 0x3201, 0x6202, 0x3202, 0x5204, 0x3204, 0x7118, 0x7138, 0x7158, 0x7178, 0x7198, 0x71B8, 0x71D8, 0x71F8] ++
      [0x5401, 0x3401, 0x8801, 0x6410, 0x3410, 0x8032, 0x5410, 0x8801, 0x6402, 0x3402, 0x6404, 0x3404, 0x9603] ++
      [0x6502, 0x3502, 0x5504, 0x3504, 0x5501, 0x3501, 0xB000] := by decide

/-- 95 V1 and V2, sample points. -/
theorem test_rev_and_lsbenc :
    (rev 0x12, rev 0xED, rev 0x7F, rev 0xA5) = (0x48, 0xB7, 0xFE, 0xA5) ∧
      (lsbenc 0x28, lsbenc 0x38, lsbenc 0xC0, lsbenc 0x80) = (4, 4, 7, 8) := by decide

/-- A table word placed for the next step is the one it runs, DBGOFF too. -/
theorem test_withFetchWord_runs :
    peek (step (State.reset.withFetchWord 16 0x3010)) (fun t => t.trace) = some [.dirW 0 0x10] ∧
      peek (step ({ State.reset with upc := 9 }.withFetchWord 16 0x1000)) (fun t => t.dbgEn) = some false := by decide

/-! Witnesses: states and operands that meet the hypotheses of the statements, all together. -/

theorem test_witness_encoding :
    (Instr.dirset 5 0xFF).wf 6 = true ∧ decode 6 0x2035 = .ok (.vpmap 3 5) := ⟨rfl, rfl⟩

/-- A machine in RUN at index 0 of some words that may run. -/
theorem test_witness_runs :
    bootRefusal (board [0x1000]) = none ∧ (board [0x1000]).mode = .run ∧ (board [0x1000]).resetIn = [] ∧
      (board [0x1000]).seq[(board [0x1000]).upc.toNat]? = some 0x1000 ∧
      decode (board [0x1000]).cfg.nports 0x1000 = .ok .dbgoff ∧ (board [0x1000]).upc.toNat ≤ (board [0x1000]).seq.length :=
  ⟨by decide, rfl, rfl, rfl, rfl, by decide⟩

theorem test_witness_illegal_opcode : IllegalWord 6 0xF000 := .inl rfl
theorem test_witness_illegal_must_be_zero : IllegalWord 6 0x9800 := .inr (.inl (by decide))
theorem test_witness_illegal_port : IllegalWord 6 0x3600 := .inr (.inr (.inl ⟨6, rfl, by decide⟩))
theorem test_witness_illegal_count : IllegalWord 6 0xDA00 := .inr (.inr (.inr ⟨rfl, .inl (by decide)⟩))

theorem test_witness_illegal_fetched :
    bootRefusal (board [0xF123]) = none ∧ (board [0xF123]).mode = .run ∧ (board [0xF123]).resetIn = [] ∧
      (board [0xF123]).seq[(board [0xF123]).upc.toNat]? = some 0xF123 ∧ IllegalWord (board [0xF123]).cfg.nports 0xF123 :=
  ⟨by decide, rfl, rfl, rfl, .inl rfl⟩

theorem test_witness_reset_state :
    ∃ (cfg : Config) (seq : List Word) (events : List Event) (s t : State), s.cfg = cfg ∧ s.seq = seq ∧
      t = takeReset events s ∧ seq = 0x1000 :: [] :=
  ⟨_, _, [.dbgW], withDir 3 1 (board [0x1000]), _, rfl, rfl, rfl, rfl⟩

theorem test_witness_reset_due :
    bootRefusal { board [0] with mode := .halt, haltCause := .overrun, resetIn := [0] } = none ∧
      ({ board [0] with mode := .halt, haltCause := .overrun, resetIn := [0] } : State).resetIn = [0] := by decide

/-- Both clauses of the reset boundary at their edge: DBGOFF records two events. -/
theorem test_witness_reset_boundary :
    ∃ u, (board [0x1000]).resetIn = [] ∧ step (board [0x1000]) = .next u ∧
      0 + 1 < u.trace.length - (board [0x1000]).trace.length ∧
      u.trace.length - (board [0x1000]).trace.length ≤ 1 + 1 := ⟨_, rfl, rfl, by decide, by decide⟩

theorem test_witness_overrun :
    bootRefusal { board [0x1000] with upc := 1 } = none ∧
      ({ board [0x1000] with upc := 1 } : State).upc.toNat = (board [0x1000]).seq.length := by decide

theorem test_witness_late_dbgoff :
    1 ≤ (board [0, 0x1000]).seq.length ∧
      (board [0, 0x1000]).seq.length ≤ 255 ∧ (board [0, 0x1000]).seq[1]? = some 0x1000 ∧ configOk allFlags = true := by
  decide

theorem test_witness_halted :
    bootRefusal { board [0] with mode := .halt } = none ∧ ({ board [0] with mode := .halt } : State).mode = .halt ∧
      ({ board [0] with mode := .halt } : State).resetIn = [] := by decide

theorem test_witness_run_step :
    ∃ t, (board [0x1000]).mode = .run ∧ (board [0x1000]).resetIn = [] ∧ step (board [0x1000]) = .next t :=
  ⟨_, rfl, rfl, rfl⟩

/-- A machine in the blink loop. -/
def blinking : State :=
  { board [0xD110] with mode := .blink, code := some ⟨1, 1, 0⟩, blink := some ⟨.long, 0, .off⟩ }

/-- A machine in the heartbeat. -/
def beating : State := { board [0xE000] with mode := .heart, heart := some ⟨0, .off⟩ }

theorem test_witness_terminal_step :
    ∃ t, blinking.mode ≠ .run ∧ blinking.resetIn = [] ∧ step blinking = .next t := ⟨_, by decide, rfl, rfl⟩

theorem test_witness_terminal_bit : (3 : PortNo) ≠ blinking.cfg.led.port ∨ (1 : PinNo) ≠ blinking.cfg.led.pin := by decide

theorem test_witness_boot : configOk Config.reference = true ∧ sequenceOk [0xD110] = true := by decide

/-- The invariant of the machine in the blink loop, a state that has left reset. -/
theorem test_witness_inv : Inv blinking where
  config := by decide
  sequence := by decide
  upcInRange := by decide
  codeInRange := fun c h => by cases h; decide
  codeWithBlink := rfl
  blinkInRange := fun c b hc hb => by cases hc; cases hb; decide
  blinkHasCode := fun _ => rfl
  heartHasCounter := fun h => by cases h
  heartInRange := fun h hh => by cases hh
  haltHasCause := by decide
  haltWordIllegal := by decide
  lineWithMask := .inl ⟨rfl, rfl⟩
  residNonzero := by decide
  portsBeyond := fun p _ => by simp [blinking, board, State.initial]
  vpmapInRange := fun k => by simp [blinking, board, State.initial, Config.reference]

theorem test_witness_inv_step : ∃ t, step blinking = .next t := ⟨_, rfl⟩

theorem test_witness_key_guarded : (board [0x1000]).trace = [] ∧ ∃ t, step (board [0x1000]) = .next t := ⟨rfl, _, rfl⟩

theorem test_witness_trace_tells : ∃ t, TraceTells (board [0x1000]) ∧ step (board [0x1000]) = .next t := ⟨_, rfl, rfl⟩

theorem test_witness_forget :
    forget { board [0] with obsv := some 1, ethSpi := ⟨7, true, true, true⟩ } = forget (board [0]) ∧
      { board [0] with obsv := some 1, ethSpi := ⟨7, true, true, true⟩ } ≠ board [0] :=
  ⟨rfl, fun h => absurd (congrArg State.obsv h) (by decide)⟩

/-- Micro-ops that change each port and system register. -/
theorem test_witness_port_writers :
    (∃ t, exec (.dirset 0 1) (board [0]) = .next t ∧ t.dir ≠ (board [0]).dir) ∧
    (∃ t, exec (.outset 0 1) (board [0]) = .next t ∧ t.out ≠ (board [0]).out) ∧
    (∃ t, exec (.pincfg 0 1 true false) (board [0]) = .next t ∧ t.pinctrl ≠ (board [0]).pinctrl) ∧
    (∃ t, exec .dbgoff (board [0]) = .next t ∧ t.dbgEn ≠ (board [0]).dbgEn) ∧
    (∃ t, exec (.vpmap 1 1) (board [0]) = .next t ∧ t.vpmap ≠ (board [0]).vpmap) ∧
    (∃ t, exec (.spicfg 1 true true true) (board [0]) = .next t ∧ t.ethSpi ≠ (board [0]).ethSpi) :=
  ⟨⟨_, rfl, by decide⟩, ⟨_, rfl, by decide⟩, ⟨_, rfl, by decide⟩, ⟨_, rfl, by decide⟩, ⟨_, rfl, by decide⟩,
    ⟨_, rfl, by decide⟩⟩

/-- Micro-ops that change each sequencer register. -/
theorem test_witness_sequencer_writers :
    (∃ t, exec .rdphy { board [0] with env := [1] } = .next t ∧ t.phyv ≠ (board [0]).phyv) ∧
    (∃ t, exec .idlechk { board [0] with env := [1] } = .next t ∧ t.obsv ≠ (board [0]).obsv ∧ t.code ≠ (board [0]).code) ∧
    (∃ t, exec (.linetest 4) { board [0] with env := [1] } = .next t ∧ t.line ≠ (board [0]).line ∧
      t.resid ≠ (board [0]).resid) ∧
    (∃ t, exec .heartbeat (board [0]) = .next t ∧ t.heart ≠ (board [0]).heart) ∧
    (∃ t, exec (.reserved 0) (board [0]) = .next t ∧ t.haltWord ≠ (board [0]).haltWord) := by
  refine ⟨⟨_, rfl, by decide⟩, ?_, ?_, ⟨_, rfl, by decide⟩, ⟨_, rfl, by decide⟩⟩
  · exact ⟨_, rfl, by decide, by decide⟩
  · exact ⟨_, rfl, by decide, by decide⟩

/-- The top port that exists and the first that does not, for the statements over ports. -/
theorem test_witness_ports :
    (5 : PortNo).toNat < (board [0]).cfg.nports ∧ (board [0]).cfg.nports ≤ (6 : PortNo).toNat ∧ (1 : BitVec 6) ≠ 0 ∧
      (1 : BitVec 12) ≠ 0 ∧ (4 : BitVec 3) ≠ 0 := by decide

/-- A pin of the mask that DIRSET drives and DIRCLR releases. -/
theorem test_witness_driven_pin :
    (0x10 : Byte).getLsbD (4 : PinNo).toNat = true ∧ (getPin (getPort (board [0]).pinctrl 0) 4).inven = false ∧
      (getPort (board [0]).dir 0).getLsbD (4 : PinNo).toNat = false ∧
      (getPort (withDir 0 0x10 (board [0])).dir 0).getLsbD (4 : PinNo).toNat = true ∧
      (∃ t, exec (.dirset 0 0x10) (board [0]) = .next t) ∧ (∃ t, exec (.dirclr 0 0x10) (board [0]) = .next t) ∧
      (∃ t, exec (.outset 0 0x10) (board [0]) = .next t) ∧ ∃ t, exec (.outclr 0 0x10) (board [0]) = .next t :=
  ⟨by decide, by decide, by decide, by decide, ⟨_, rfl⟩, ⟨_, rfl⟩, ⟨_, rfl⟩, ⟨_, rfl⟩⟩

theorem test_witness_dbgoff_late : 0 < 1 ∧ (board [0, 0x1000]).seq[1]? = some 0x1000 := by decide

/-- The indicator dark, and lit with its OUT bit at 0 (70_reset_and_hazards.md R248). -/
theorem test_witness_indicator :
    (getPort (board [0]).dir 3).getLsbD 0 = false ∧ (getPort (withDir 3 1 (board [0])).dir 3).getLsbD 0 = true ∧
      (getPort (withDir 3 1 (board [0])).out 3).getLsbD 0 = false ∧ ∃ t, exec (.outclr 3 1) (board [0]) = .next t :=
  ⟨by decide, by decide, by decide, _, rfl⟩

theorem test_witness_other_pin : (2 : PortNo) ≠ 1 ∨ (0 : PinNo) ≠ 0 := by decide

/-- Boards of both kinds for the read primitive. -/
theorem test_witness_read_boards :
    (board [0]).cfg.clockedRead = false ∧ (State.initial allFlags [0]).cfg.clockedRead = true := by decide

/-- The clocked-read lines at their idle levels. -/
theorem test_witness_idle_levels :
    configOk (withOut 2 0x04 (State.initial allFlags [0])).cfg = true ∧
      (getPort (withOut 2 0x04 (State.initial allFlags [0])).out allFlags.phyClk.port).getLsbD allFlags.phyClk.pin.toNat =
        false ∧
      (getPort (withOut 2 0x04 (State.initial allFlags [0])).out allFlags.phyOe.port).getLsbD allFlags.phyOe.pin.toNat =
        true := by decide

/-- The lowest set bit at both ends of its range. -/
theorem test_witness_lowest_bit :
    ((0x81 : Byte).getLsbD 0 = true) ∧
      ((0x80 : Byte).getLsbD 7 = true ∧ ∀ j : Fin 8, j < 7 → (0x80 : Byte).getLsbD j.val = false) := by decide

/-- Both outcomes of IDLECHK, the failing one at the top line. -/
theorem test_witness_idlechk :
    (0 : Byte) = pinsNow 0 { board [0] with env := [0] } ^^^ invMask (getPort (board [0]).pinctrl 0) ∧
      (0x80 : Byte) = pinsNow 0 { board [0] with env := [0x80] } ^^^ invMask (getPort (board [0]).pinctrl 0) := by decide

/-- The three outcomes of LINETEST. -/
theorem test_witness_linetest :
    (0x28 : Byte) = pinsNow 0 { board [0] with env := [0x28] } ^^^ invMask (getPort (board [0]).pinctrl 0) ∧
      (0x28 : Byte) ≠ 1#8 <<< (4 : BitVec 3).toNat ∧
      pinsNow 0 { board [0] with env := [0x10, 0x28] } ^^^ invMask (getPort (board [0]).pinctrl 0) =
        1#8 <<< (4 : BitVec 3).toNat ∧
      (readPhy { board [0] with env := [0x28] }).1 ≠ 1#8 <<< (4 : BitVec 3).toNat ∧
      (readPhy { board [0] with env := [0x10] }).1 = 1#8 <<< (4 : BitVec 3).toNat := by decide

theorem test_witness_linetest_failure :
    ∃ t, ({ board [0] with env := [0x28] } : State).mode = .run ∧
      exec (.linetest 4) { board [0] with env := [0x28] } = .next t ∧ t.mode ≠ .run := ⟨_, rfl, rfl, by decide⟩

/-- An ideal board with every flag set, line 3 (95 section 2.5, last example). -/
def idealState : State :=
  { inverted (withOut 2 0x04 (withOut 0 0xFF (State.initial allFlags [0]))) with env := [0x04, 0xDF] }

theorem test_witness_ideal_board :
    configOk idealState.cfg = true ∧ getPort idealState.dir idealState.cfg.pObs = 0 ∧
      getPort idealState.out idealState.cfg.pObs = 0xFF ∧
      (∀ i, (getPin (getPort idealState.pinctrl idealState.cfg.pObs) i).inven = false) ∧
      idealState.env = [0x04, 0xDF] ∧
      0x04 = idealPins (driveLine 2 idealState) idealState.cfg.pObs ∧
      0xDF = idealPins (phyEnable (observe (driveLine 2 idealState))) idealState.cfg.pPhyd :=
  ⟨by decide, by decide, by decide, by decide, rfl, by decide, by decide⟩

/-- Counts at both sides of their limit. -/
theorem test_witness_counts : (9 : Count).toNat ≤ 9 ∧ 9 < (10 : Count).toNat := by decide

/-- Both sides of what stops a step: a sequence that may run or not, and UPC at SEQ_LEN or above it, where a reset due is taken. -/
theorem test_witness_stops :
    sequenceOk [0] = true ∧ (board [0]).mode = .run ∧ ({ board [0] with upc := 1 } : State).upc.toNat = (board [0]).seq.length ∧
      step { board [0] with upc := 2 } = .fault .noSuchSequenceWord ∧
      peek (step { board [0] with upc := 2, resetIn := [0] }) (fun t => t.upc) = some 0 ∧ sequenceOk [] = false :=
  ⟨by decide, rfl, by decide, rfl, rfl, by decide⟩

/-- A halt is entered and stood in with the indicator's DIR and OUT bits both 1. -/
theorem test_witness_halt_seen :
    peek (step (withOut 3 1 (withDir 3 1 (board [0xF000])))) (fun t => (t.mode, getPort t.dir 3, getPort t.out 3)) =
        some (.halt, 1, 1) ∧
      peek (step { withOut 3 1 (withDir 3 1 (board [0])) with mode := .halt }) (fun t => t.mode) = some .halt := by
  decide

/-- Micro-ops that change MODE, each way, leaving UPC; and one that moves UPC on. -/
theorem test_witness_mode_writers :
    (∃ t, exec (.fail 1 1 0) (board [0]) = .next t ∧ t.mode ≠ (board [0]).mode ∧ t.upc = (board [0]).upc) ∧
    (∃ t, exec .heartbeat (board [0]) = .next t ∧ t.mode ≠ (board [0]).mode ∧ t.upc = (board [0]).upc) ∧
    (∃ t, exec (.dirset 6 0) (board [0]) = .next t ∧ t.mode ≠ (board [0]).mode ∧ t.upc = (board [0]).upc) ∧
    ∃ t, exec .nop (board [0]) = .next t ∧ t.upc = (board [0]).upc + 1 :=
  ⟨⟨_, rfl, by decide, rfl⟩, ⟨_, rfl, by decide, rfl⟩, ⟨_, rfl, by decide, rfl⟩, ⟨_, rfl, rfl⟩⟩

theorem test_witness_ill_formed :
    (Instr.dirset 6 0).wf (board [0]).cfg.nports = false ∧ (Instr.fail 0 0 10).wf (board [0]).cfg.nports = false := by
  decide

/-- Both starts of a blink period. -/
theorem test_witness_blink_period :
    bootRefusal blinking = none ∧ blinking.mode = .blink ∧ blinking.resetIn = [] ∧
      blinking.code = some ⟨1, 1, 0⟩ ∧ blinking.blink = some ⟨.long, 0, .off⟩ ∧
      bootRefusal { blinking with blink := some ⟨.endPause, 0, .off⟩ } = none := by decide

theorem test_witness_heart_ramp :
    bootRefusal beating = none ∧ beating.mode = .heart ∧ beating.resetIn = [] ∧ beating.cfg.hbTop ≤ 63 ∧
      beating.heart = some ⟨0, .off⟩ := by
  decide

theorem test_witness_heart_table : Config.reference.hbTop = 32 ∧ Config.reference.hbMid = 16 := by decide

end Sys2Proof.Tests
end

section
/-! PROOFS. What one step can do, said once: the outcomes of every micro-op, of the step MODE selects and of the whole
step, and what each of them leaves unchanged. -/

namespace Sys2Proof.Proofs

open Sys2Proof.Machine Sys2Proof.Laws

/-! The outcomes of a micro-op (40_board_init.md to 44_signaling.md). -/

/-- `Performs i s t`: executing micro-op `i` in `s` can end in `t`. One constructor per outcome, with the condition under
which it is the outcome. -/
inductive Performs : Instr → State → State → Prop
  | nop (s) : Performs .nop s (advance s)
  | dbgoff (s) : Performs .dbgoff s (advance (disableDebug s))
  | vpmap {k p s} (hp : portExists s.cfg.nports p = true) : Performs (.vpmap k p) s (advance (writeVpmap k p s))
  | dirset {p m s} (hp : portExists s.cfg.nports p = true) : Performs (.dirset p m) s (advance (setDirBits p m s))
  | dirclr {p m s} (hp : portExists s.cfg.nports p = true) : Performs (.dirclr p m) s (advance (clearDirBits p m s))
  | outset {p m s} (hp : portExists s.cfg.nports p = true) : Performs (.outset p m) s (advance (setOutBits p m s))
  | outclr {p m s} (hp : portExists s.cfg.nports p = true) : Performs (.outclr p m) s (advance (clearOutBits p m s))
  | pincfg {p pin a v s} (hp : portExists s.cfg.nports p = true) :
      Performs (.pincfg p pin a v) s (advance (writePinCtrl p pin a v s))
  | delay (u n s) : Performs (.delay u n) s (advance (wait (delayTime u n) s))
  | spicfg (b c t r s) : Performs (.spicfg b c t r) s (advance (writeEthSpi b c t r s))
  | rdphy (s) : Performs .rdphy s (advance (readBus s))
  | idlechkPass {s} (hv : sampled s.cfg.pObs s = 0) : Performs .idlechk s (advance (observe s))
  | idlechkFail {s} (hv : sampled s.cfg.pObs s ≠ 0) :
      Performs .idlechk s (raiseFail 1 (lsbenc (sampled s.cfg.pObs s)) 0 (observe s))
  | outputShort {n s} (hv : sampled s.cfg.pObs (driveLine n s) ≠ lineMask n) :
      Performs (.linetest n) s (raiseShort 2 n (sampled s.cfg.pObs (driveLine n s)) (observe (driveLine n s)))
  | inputShort {n s} (ho : sampled s.cfg.pObs (driveLine n s) = lineMask n)
      (hv : (readPhy (observe (driveLine n s))).1 ≠ lineMask n) :
      Performs (.linetest n) s
        (raiseShort 3 n (readPhy (observe (driveLine n s))).1 (readBus (observe (driveLine n s))))
  | linetestPass {n s} (ho : sampled s.cfg.pObs (driveLine n s) = lineMask n)
      (hv : (readPhy (observe (driveLine n s))).1 = lineMask n) :
      Performs (.linetest n) s
        (advance (clearDirBits s.cfg.pObs (lineMask n) (readBus (observe (driveLine n s)))))
  | fail {l sc e s} (hc : (Instr.fail l sc e).wf s.cfg.nports = true) : Performs (.fail l sc e) s (raiseFail l sc e s)
  | heartbeat (s) : Performs .heartbeat s { s with mode := .heart, heart := some ⟨0, .off⟩ }
  | illegal {i s} (hi : i.wf s.cfg.nports = false ∨ ∃ x, i = .reserved x) : Performs i s (haltIllegal (encode i) s)

/-- The decode check performs the effect or the halt. -/
theorem legalOrHalt_performs {i : Instr} {s t : State} (h : i.wf s.cfg.nports = true → Performs i s t) :
    ∃ u, legalOrHalt i s t = .next u ∧ Performs i s u := by
  cases hw : i.wf s.cfg.nports with
  | true => exact ⟨t, legalOrHalt_legal i s t hw, h hw⟩
  | false => exact ⟨_, legalOrHalt_illegal i s t hw, .illegal (.inl hw)⟩

theorem execIdlechk_performs (s : State) : ∃ t, execIdlechk s = .next t ∧ Performs .idlechk s t := by
  unfold execIdlechk
  split
  · next hv => exact ⟨_, rfl, .idlechkFail (by simpa [idleViolation] using hv)⟩
  · next hv => exact ⟨_, rfl, .idlechkPass (by simpa [idleViolation] using hv)⟩

theorem execLinetest_performs (n : BitVec 3) (s : State) :
    ∃ t, execLinetest n s = .next t ∧ Performs (.linetest n) s t := by
  unfold execLinetest
  split
  · next hv => exact ⟨_, rfl, .outputShort (by simpa [readbackMismatch] using hv)⟩
  · next ho =>
    have ho : sampled s.cfg.pObs (driveLine n s) = lineMask n := by simpa [readbackMismatch] using ho
    unfold checkBus
    split
    · next hv => exact ⟨_, rfl, .inputShort ho (by simpa [readbackMismatch] using hv)⟩
    · next hv => exact ⟨_, rfl, .linetestPass ho (by simpa [readbackMismatch] using hv)⟩

/-- Every micro-op answers a next state, and that is one of the outcomes of `Performs`. -/
theorem exec_performs (i : Instr) (s : State) : ∃ t, exec i s = .next t ∧ Performs i s t := by
  cases i with
  | nop => exact ⟨_, rfl, .nop s⟩
  | dbgoff => exact ⟨_, rfl, .dbgoff s⟩
  | vpmap k p => exact legalOrHalt_performs .vpmap
  | dirset p m => exact legalOrHalt_performs .dirset
  | dirclr p m => exact legalOrHalt_performs .dirclr
  | outset p m => exact legalOrHalt_performs .outset
  | outclr p m => exact legalOrHalt_performs .outclr
  | pincfg p pin a v => exact legalOrHalt_performs .pincfg
  | delay u n => exact ⟨_, rfl, .delay u n s⟩
  | spicfg b c t r => exact ⟨_, rfl, .spicfg b c t r s⟩
  | rdphy => exact ⟨_, rfl, .rdphy s⟩
  | idlechk => exact execIdlechk_performs s
  | linetest n => exact execLinetest_performs n s
  | fail l sc e => exact legalOrHalt_performs .fail
  | heartbeat => exact ⟨_, rfl, .heartbeat s⟩
  | reserved x => exact ⟨_, rfl, .illegal (.inr ⟨x, rfl⟩)⟩

/-- What a micro-op answers, it performs. -/
theorem performs_of_exec {i : Instr} {s t : State} (h : exec i s = .next t) : Performs i s t := by
  obtain ⟨u, hu, hp⟩ := exec_performs i s
  rw [hu] at h
  cases h
  exact hp

/-! What the composite reads and drives of the self-test leave alone, register by register. -/

section

variable (s : State)

@[simp] theorem observe_cfg : (observe s).cfg = s.cfg := rfl
@[simp] theorem observe_seq : (observe s).seq = s.seq := rfl
@[simp] theorem observe_upc : (observe s).upc = s.upc := rfl
@[simp] theorem observe_mode : (observe s).mode = s.mode := rfl
@[simp] theorem observe_phyv : (observe s).phyv = s.phyv := rfl
@[simp] theorem observe_line : (observe s).line = s.line := rfl
@[simp] theorem observe_mask : (observe s).mask = s.mask := rfl
@[simp] theorem observe_resid : (observe s).resid = s.resid := rfl
@[simp] theorem observe_code : (observe s).code = s.code := rfl
@[simp] theorem observe_haltCause : (observe s).haltCause = s.haltCause := rfl
@[simp] theorem observe_haltWord : (observe s).haltWord = s.haltWord := rfl
@[simp] theorem observe_dir : (observe s).dir = s.dir := rfl
@[simp] theorem observe_out : (observe s).out = s.out := rfl
@[simp] theorem observe_pinctrl : (observe s).pinctrl = s.pinctrl := rfl
@[simp] theorem observe_dbgEn : (observe s).dbgEn = s.dbgEn := rfl
@[simp] theorem observe_vpmap : (observe s).vpmap = s.vpmap := rfl
@[simp] theorem observe_ethSpi : (observe s).ethSpi = s.ethSpi := rfl
@[simp] theorem observe_blink : (observe s).blink = s.blink := rfl
@[simp] theorem observe_heart : (observe s).heart = s.heart := rfl
@[simp] theorem observe_resetIn : (observe s).resetIn = s.resetIn := rfl

@[simp] theorem driveLine_cfg (n : BitVec 3) : (driveLine n s).cfg = s.cfg := rfl
@[simp] theorem driveLine_seq (n : BitVec 3) : (driveLine n s).seq = s.seq := rfl
@[simp] theorem driveLine_upc (n : BitVec 3) : (driveLine n s).upc = s.upc := rfl
@[simp] theorem driveLine_mode (n : BitVec 3) : (driveLine n s).mode = s.mode := rfl
@[simp] theorem driveLine_obsv (n : BitVec 3) : (driveLine n s).obsv = s.obsv := rfl
@[simp] theorem driveLine_phyv (n : BitVec 3) : (driveLine n s).phyv = s.phyv := rfl
@[simp] theorem driveLine_resid (n : BitVec 3) : (driveLine n s).resid = s.resid := rfl
@[simp] theorem driveLine_code (n : BitVec 3) : (driveLine n s).code = s.code := rfl
@[simp] theorem driveLine_haltCause (n : BitVec 3) : (driveLine n s).haltCause = s.haltCause := rfl
@[simp] theorem driveLine_haltWord (n : BitVec 3) : (driveLine n s).haltWord = s.haltWord := rfl
@[simp] theorem driveLine_out (n : BitVec 3) : (driveLine n s).out = s.out := rfl
@[simp] theorem driveLine_pinctrl (n : BitVec 3) : (driveLine n s).pinctrl = s.pinctrl := rfl
@[simp] theorem driveLine_dbgEn (n : BitVec 3) : (driveLine n s).dbgEn = s.dbgEn := rfl
@[simp] theorem driveLine_vpmap (n : BitVec 3) : (driveLine n s).vpmap = s.vpmap := rfl
@[simp] theorem driveLine_ethSpi (n : BitVec 3) : (driveLine n s).ethSpi = s.ethSpi := rfl
@[simp] theorem driveLine_blink (n : BitVec 3) : (driveLine n s).blink = s.blink := rfl
@[simp] theorem driveLine_heart (n : BitVec 3) : (driveLine n s).heart = s.heart := rfl
@[simp] theorem driveLine_resetIn (n : BitVec 3) : (driveLine n s).resetIn = s.resetIn := rfl

@[simp] theorem readBus_cfg : (readBus s).cfg = s.cfg := by rw [readBus_eq]
@[simp] theorem readBus_seq : (readBus s).seq = s.seq := by rw [readBus_eq]
@[simp] theorem readBus_upc : (readBus s).upc = s.upc := by rw [readBus_eq]
@[simp] theorem readBus_mode : (readBus s).mode = s.mode := by rw [readBus_eq]
@[simp] theorem readBus_obsv : (readBus s).obsv = s.obsv := by rw [readBus_eq]
@[simp] theorem readBus_line : (readBus s).line = s.line := by rw [readBus_eq]
@[simp] theorem readBus_mask : (readBus s).mask = s.mask := by rw [readBus_eq]
@[simp] theorem readBus_resid : (readBus s).resid = s.resid := by rw [readBus_eq]
@[simp] theorem readBus_code : (readBus s).code = s.code := by rw [readBus_eq]
@[simp] theorem readBus_haltCause : (readBus s).haltCause = s.haltCause := by rw [readBus_eq]
@[simp] theorem readBus_haltWord : (readBus s).haltWord = s.haltWord := by rw [readBus_eq]
@[simp] theorem readBus_dir : (readBus s).dir = s.dir := by rw [readBus_eq]
@[simp] theorem readBus_pinctrl : (readBus s).pinctrl = s.pinctrl := by rw [readBus_eq]
@[simp] theorem readBus_dbgEn : (readBus s).dbgEn = s.dbgEn := by rw [readBus_eq]
@[simp] theorem readBus_vpmap : (readBus s).vpmap = s.vpmap := by rw [readBus_eq]
@[simp] theorem readBus_ethSpi : (readBus s).ethSpi = s.ethSpi := by rw [readBus_eq]
@[simp] theorem readBus_blink : (readBus s).blink = s.blink := by rw [readBus_eq]
@[simp] theorem readBus_heart : (readBus s).heart = s.heart := by rw [readBus_eq]
@[simp] theorem readBus_resetIn : (readBus s).resetIn = s.resetIn := by rw [readBus_eq]

end

/-! The outcomes of the step MODE selects (10_state.md R24, R25). -/

/-- `ModePerforms s t`: with no reset input, the step that MODE selects in `s` can end in `t`. -/
inductive ModePerforms (s : State) : State → Prop
  | word {w i t} (hm : s.mode = .run) (hw : s.seq[s.upc.toNat]? = some w)
      (hd : decode s.cfg.nports w = .ok i) (hp : Performs i s t) : ModePerforms s t
  | illegal {w r} (hm : s.mode = .run) (hw : s.seq[s.upc.toNat]? = some w)
      (hd : decode s.cfg.nports w = .error r) : ModePerforms s (haltIllegal w s)
  | overrun (hm : s.mode = .run) (hu : s.upc.toNat = s.seq.length) : ModePerforms s (raiseHalt .overrun s)
  | blink (hm : s.mode = .blink) :
      ModePerforms s (blinkPart (s.code.getD Config.absentCode) (s.blink.getD Config.absentBlink) s)
  | heart (hm : s.mode = .heart) : ModePerforms s (heartPart (s.heart.getD Config.absentHeart) s)
  | halt (hm : s.mode = .halt) : ModePerforms s s

/-- A fetched word that decodes is executed. -/
theorem runStep_decoded {s : State} {w : Word} {i : Instr} (hw : s.seq[s.upc.toNat]? = some w)
    (hd : decode s.cfg.nports w = .ok i) : runStep s = exec i s := by
  simp [runStep, fetch, hw, hd]

/-- A fetched word that does not decode halts with itself. -/
theorem runStep_rejected {s : State} {w : Word} {r : IllegalReason} (hw : s.seq[s.upc.toNat]? = some w)
    (hd : decode s.cfg.nports w = .error r) : runStep s = .next (haltIllegal w s) := by
  simp [runStep, fetch, hw, hd]

/-- A fetch at SEQ_LEN is the overrun. -/
theorem runStep_overrun {s : State} (hu : s.upc.toNat = s.seq.length) : runStep s = .next (raiseHalt .overrun s) := by
  simp [runStep, fetch, hu]

/-- A fetch above SEQ_LEN is a fault. -/
theorem runStep_beyond {s : State} (hu : s.seq.length < s.upc.toNat) : runStep s = .fault .noSuchSequenceWord := by
  have hnone : s.seq[s.upc.toNat]? = none := List.getElem?_eq_none hu.le
  simp [runStep, fetch, hnone, hu.ne']

/-- A step in RUN inside the sequence or at its end answers a next state. -/
theorem runStep_performs {s : State} (hm : s.mode = .run) (hu : s.upc.toNat ≤ s.seq.length) :
    ∃ t, runStep s = .next t ∧ ModePerforms s t := by
  rcases hu.eq_or_lt with he | hl
  · exact ⟨_, runStep_overrun he, .overrun hm he⟩
  · have hw : s.seq[s.upc.toNat]? = some s.seq[s.upc.toNat] := List.getElem?_eq_getElem hl
    cases hd : decode s.cfg.nports s.seq[s.upc.toNat] with
    | ok i =>
      obtain ⟨t, ht, hp⟩ := exec_performs i s
      exact ⟨t, (runStep_decoded hw hd).trans ht, .word hm hw hd hp⟩
    | error r => exact ⟨_, runStep_rejected hw hd, .illegal hm hw hd⟩

/-- The step MODE selects answers a next state, but for a fetch above SEQ_LEN. -/
theorem modeStep_performs (s : State) (hu : s.mode = .run → s.upc.toNat ≤ s.seq.length) :
    ∃ t, modeStep s = .next t ∧ ModePerforms s t := by
  unfold modeStep
  split
  · next hm => exact runStep_performs hm (hu hm)
  · next hm => exact ⟨_, rfl, .blink hm⟩
  · next hm => exact ⟨_, rfl, .heart hm⟩
  · next hm => exact ⟨_, rfl, .halt hm⟩

/-- What the step MODE selects answers, it performs. -/
theorem modePerforms_of_modeStep {s t : State} (h : modeStep s = .next t) : ModePerforms s t := by
  have hu : s.mode = .run → s.upc.toNat ≤ s.seq.length := by
    intro hm
    by_contra hlt
    simp [modeStep, hm, runStep_beyond (not_le.mp hlt)] at h
  obtain ⟨u, hu', hp⟩ := modeStep_performs s hu
  rw [hu'] at h
  cases h
  exact hp

/-- With no reset input, what a step answers is what MODE selects. -/
theorem modePerforms_of_step {s t : State} (hr : s.resetIn = []) (h : step s = .next t) : ModePerforms s t := by
  rw [step_eq_modeStep (step_next h).1 hr] at h
  exact modePerforms_of_modeStep h

/-! Sequences that may run (00_scope.md R8). -/

theorem sequenceOk_of_bootRefusal {s : State} (h : bootRefusal s = none) : sequenceOk s.seq = true := by
  unfold bootRefusal at h
  split at h
  · assumption
  · cases h

theorem bootRefusal_eq_none {s : State} (h : sequenceOk s.seq = true) : bootRefusal s = none := by
  simp [bootRefusal, h]

theorem length_le_of_sequenceOk {seq : List Word} (h : sequenceOk seq = true) : seq.length ≤ 255 := by
  simp only [sequenceOk, Bool.and_eq_true, decide_eq_true_eq] at h
  exact h.1.2

/-- Inside a sequence that may run, UPC does not wrap. -/
theorem advance_upc_toNat {s : State} {w : Word} (hs : sequenceOk s.seq = true)
    (hw : s.seq[s.upc.toNat]? = some w) : (s.upc + 1).toNat = s.upc.toNat + 1 ∧ s.upc.toNat < s.seq.length := by
  obtain ⟨hlt, -⟩ := List.getElem?_eq_some_iff.mp hw
  have := length_le_of_sequenceOk hs
  exact ⟨by rw [BitVec.toNat_add]; simp; omega, hlt⟩

end Sys2Proof.Proofs
end

section
/-! PROOFS. The invariant of the machine: it holds after reset, and every step keeps it. -/

namespace Sys2Proof.Proofs

open Sys2Proof.Machine Sys2Proof.Safety Sys2Proof.Laws

/-! What a board of the spec provides (00_scope.md R7). -/

/-- What the invariant needs of a legal board: its ports exist, and HB_TOP is a value of the six-bit counter. -/
structure BoardFacts (c : Config) : Prop where
  hasPort : 0 < c.nports
  pObs : portExists c.nports c.pObs = true
  led : portExists c.nports c.led.port = true
  phyClk : c.clockedRead = true → portExists c.nports c.phyClk.port = true
  phyOe : c.clockedRead = true → portExists c.nports c.phyOe.port = true
  hbTop : c.hbTop ≤ 63

theorem boardFacts_of_configOk {c : Config} (h : configOk c = true) : BoardFacts c := by
  simp only [configOk, portsOk, timesOk, Bool.and_eq_true, decide_eq_true_eq, List.all_eq_true] at h
  obtain ⟨⟨⟨⟨⟨⟨⟨⟨h1, -⟩, hobs⟩, -⟩, -⟩, hlines⟩, -⟩, -⟩, -, hb⟩ := h
  have hused : ∀ l ∈ usedLines c, portExists c.nports l.port = true := fun l hl => by
    have := hlines l hl
    simp only [lineOk, Bool.and_eq_true] at this
    exact this.1.1
  exact {
    hasPort := h1
    pObs := hobs
    led := hused _ (by simp [usedLines])
    phyClk := fun hc => hused _ (by simp [usedLines, hc])
    phyOe := fun hc => hused _ (by simp [usedLines, hc])
    hbTop := hb }

theorem lsbenc_le (v : Byte) : (lsbenc v).toNat ≤ 9 := by
  unfold lsbenc
  split_ifs <;> decide

theorem lineNumber_le (n : BitVec 3) : (lineNumber n).toNat ≤ 9 := by
  revert n
  decide

/-- The counter stays in its range: it wraps at HB_TOP (10_state.md R43). -/
theorem heartNext_le {c : Config} {cnt : BitVec 6} (hc : cnt.toNat ≤ c.hbTop) : (heartNext c cnt).toNat ≤ c.hbTop := by
  unfold heartNext
  split
  · simp
  · next hne =>
    have : (cnt + 1).toNat ≤ cnt.toNat + 1 := by
      rw [BitVec.toNat_add]
      exact Nat.mod_le _ _
    omega

/-- A port that exists is none of those beyond. -/
theorem ne_of_portExists {nports : Nat} {p q : PortNo} (hp : portExists nports p = true) (hq : nports ≤ q.toNat) :
    p ≠ q := by
  rintro rfl
  simp only [portExists, decide_eq_true_eq] at hp
  omega

/-! After reset. -/

/-- A fresh machine of a legal board and sequence: nothing is written yet, so each clause is about reset values. -/
theorem inv_initial {cfg : Config} {seq : List Word} (hc : configOk cfg = true) (hs : sequenceOk seq = true) :
    Inv (State.initial cfg seq) where
  config := hc
  sequence := hs
  upcInRange := Nat.zero_le _
  codeInRange := fun c h => by cases h
  codeWithBlink := rfl
  blinkInRange := fun c b h => by cases h
  blinkHasCode := fun h => by cases h
  heartHasCounter := fun h => by cases h
  heartInRange := fun c h => by cases h
  haltHasCause := by simp [State.initial]
  haltWordIllegal := by simp [State.initial]
  lineWithMask := .inl ⟨rfl, rfl⟩
  residNonzero := by simp [State.initial]
  portsBeyond := fun p _ => by simp [State.initial]
  vpmapInRange := fun k => by simpa [State.initial] using (boardFacts_of_configOk hc).hasPort

theorem inv_takeReset {s : State} (h : Inv s) (events : List Event) : Inv (takeReset events s) :=
  { inv_initial h.config h.sequence with }

/-! The updates of the state, one at a time. -/

section

variable {s : State} (h : Inv s)
include h

theorem inv_resetIn (r : List Nat) : Inv { s with resetIn := r } := { h with }

theorem inv_wait (d : WaitTime) : Inv (wait d s) := { h with }

theorem inv_disableDebug : Inv (disableDebug s) := { h with }

theorem inv_writeEthSpi (b : Byte) (c t r : Bool) : Inv (writeEthSpi b c t r s) := { h with }

theorem inv_sample (p : PortNo) : Inv (sample p s) := { h with }

theorem inv_observe : Inv (observe s) := { h with }

theorem inv_advance (hw : s.upc.toNat < s.seq.length) : Inv (advance s) :=
  { h with
    upcInRange := by
      have := length_le_of_sequenceOk h.sequence
      simp only [advance_upc, advance_seq, BitVec.toNat_add]
      have : (1 : BitVec 8).toNat = 1 := rfl
      omega }

theorem inv_writeVpmap (k : VPortNo) {p : PortNo} (hp : portExists s.cfg.nports p = true) : Inv (writeVpmap k p s) :=
  { h with
    vpmapInRange := fun j => by
      simp only [writeVpmap_vpmap, writeVpmap_cfg, getVPort_setVPort]
      split
      · simpa [portExists] using hp
      · exact h.vpmapInRange j }

theorem inv_writeDir {p : PortNo} (v : Byte) (hp : portExists s.cfg.nports p = true) : Inv (writeDir p v s) :=
  { h with
    portsBeyond := fun q hq => by
      simpa [getPort_setPort_other _ _ _ _ (ne_of_portExists hp hq)] using h.portsBeyond q hq }

theorem inv_clearDirBits {p : PortNo} (m : Byte) (hp : portExists s.cfg.nports p = true) : Inv (clearDirBits p m s) :=
  inv_writeDir h _ hp

theorem inv_writeOut {p : PortNo} (v : Byte) (hp : portExists s.cfg.nports p = true) : Inv (writeOut p v s) :=
  { h with
    portsBeyond := fun q hq => by
      simpa [getPort_setPort_other _ _ _ _ (ne_of_portExists hp hq)] using h.portsBeyond q hq }

theorem inv_writePinCtrl {p : PortNo} (pin : PinNo) (a v : Bool) (hp : portExists s.cfg.nports p = true) :
    Inv (writePinCtrl p pin a v s) :=
  { h with
    portsBeyond := fun q hq => by
      simpa [getPort_setPort_other _ _ _ _ (ne_of_portExists hp hq)] using h.portsBeyond q hq }

theorem inv_ledOn : Inv (ledOn s) := inv_writeDir h _ (boardFacts_of_configOk h.config).led

theorem inv_ledOff : Inv (ledOff s) := inv_writeDir h _ (boardFacts_of_configOk h.config).led

theorem inv_driveLine (n : BitVec 3) : Inv (driveLine n s) :=
  have hlm : Inv { s with line := some (lineNumber n), mask := some (lineMask n) } :=
    { h with lineWithMask := .inr ⟨n, rfl, rfl⟩ }
  inv_wait (inv_writeDir hlm _ (boardFacts_of_configOk h.config).pObs) _

theorem inv_phyEnable : Inv (phyEnable s) := by
  unfold phyEnable
  split
  · next hc =>
    have hclk := (boardFacts_of_configOk h.config).phyClk hc
    have hoe := (boardFacts_of_configOk h.config).phyOe hc
    exact inv_writeOut (inv_writeOut (inv_writeOut h _ hclk) _ hoe) _ hclk
  · exact h

theorem inv_phyDisable : Inv (phyDisable s) := by
  unfold phyDisable
  split
  · next hc => exact inv_writeOut h _ ((boardFacts_of_configOk h.config).phyOe hc)
  · exact h

theorem inv_readBus : Inv (readBus s) :=
  have hr : Inv (readPhy s).2 := by
    simp only [readPhy]
    exact inv_phyDisable (inv_sample (inv_phyEnable h) _)
  { hr with }

/-- In RUN nothing has halted. -/
theorem inv_run_not_halted (hm : s.mode = .run) : s.haltCause = .none ∧ s.haltWord = none := by
  have hc : s.haltCause = .none := by simpa [hm] using h.haltHasCause
  exact ⟨hc, by simpa [hc] using h.haltWordIllegal⟩

theorem inv_raiseFail {l sc e : Count} (hm : s.mode = .run) (hl : l.toNat ≤ 9) (hsc : sc.toNat ≤ 9)
    (he : e.toNat ≤ 9) : Inv (raiseFail l sc e s) :=
  { h with
    codeInRange := fun c hc => by cases hc; exact ⟨hl, hsc, he⟩
    codeWithBlink := rfl
    blinkInRange := fun c b hc hb => by cases hc; cases hb; simp
    blinkHasCode := fun _ => rfl
    heartHasCounter := fun hh => by cases hh
    haltHasCause := by simp [(inv_run_not_halted h hm).1] }

theorem inv_raiseShort {f : Count} {n : BitVec 3} {v : Byte} (hm : s.mode = .run) (hf : f.toNat ≤ 9)
    (hv : v ≠ lineMask n) : Inv (raiseShort f n v s) :=
  have hr : Inv { s with resid := some (Machine.residual v (lineMask n)) } :=
    { h with residNonzero := by simpa [Machine.residual] using hv }
  inv_raiseFail hr hm hf (lineNumber_le n) (lsbenc_le _)

theorem inv_heartbeat (hm : s.mode = .run) : Inv { s with mode := .heart, heart := some ⟨0, .off⟩ } :=
  { h with
    blinkHasCode := fun hb => by cases hb
    heartHasCounter := fun _ => rfl
    heartInRange := fun p hp => by cases hp; simp
    haltHasCause := by simp [(inv_run_not_halted h hm).1] }

theorem inv_haltIllegal (w : Word) : Inv (haltIllegal w s) :=
  { h with
    blinkHasCode := fun hb => by cases hb
    heartHasCounter := fun hb => by cases hb
    haltHasCause := by simp
    haltWordIllegal := by simp }

theorem inv_raiseHalt_overrun (hm : s.mode = .run) : Inv (raiseHalt .overrun s) :=
  { h with
    blinkHasCode := fun hb => by cases hb
    heartHasCounter := fun hb => by cases hb
    haltHasCause := by simp
    haltWordIllegal := by simp [(inv_run_not_halted h hm).2] }

/-! The two loops. -/

/-- The blink loop moved to a position inside its code. -/
theorem inv_moveBlink {c : FailCode} {b : BlinkPos} (hc : s.code = some c)
    (hk : b.k.toNat ≤ (flashCount c b.group).toNat)
    (hon : b.ph = .on → b.k.toNat < (flashCount c b.group).toNat) : Inv { s with blink := some b } :=
  { h with
    codeWithBlink := by simp [hc]
    blinkInRange := fun c' b' hc' hb' => by
      obtain rfl : c = c' := by simpa [hc] using hc'
      cases hb'
      exact ⟨hk, hon⟩ }

theorem inv_blinkPart {c : FailCode} {b : BlinkPos} (hc : s.code = some c) (hb : s.blink = some b) :
    Inv (blinkPart c b s) := by
  obtain ⟨-, hon⟩ := h.blinkInRange c b hc hb
  unfold blinkPart
  split
  · next hph =>
    have hk : (b.k + 1).toNat ≤ (flashCount c b.group).toNat := by
      have := hon hph
      bv_omega
    exact inv_moveBlink (inv_wait (inv_ledOff h) _) hc hk (by simp)
  · split
    · next hlt => exact inv_moveBlink (inv_wait (inv_ledOn h) _) hc hlt.le fun _ => hlt
    · exact inv_moveBlink (inv_wait h _) hc (by simp) (by simp)

/-- The heartbeat moved to a counter in its range. -/
theorem inv_moveHeart {p : HeartPos} (hp : p.cnt.toNat ≤ s.cfg.hbTop) : Inv { s with heart := some p } :=
  { h with
    heartHasCounter := fun _ => rfl
    heartInRange := fun q hq => by cases hq; exact hp }

theorem inv_heartPart {p : HeartPos} (hp : s.heart = some p) : Inv (heartPart p s) := by
  have hle := h.heartInRange p hp
  unfold heartPart
  split
  · exact inv_moveHeart (inv_wait (inv_ledOn h) _) hle
  · exact inv_moveHeart (inv_wait (inv_ledOff h) _) (heartNext_le hle)

end

/-! The step. -/

theorem performs_keeps_inv {i : Instr} {s t : State} (h : Inv s) (hm : s.mode = .run)
    (hw : s.upc.toNat < s.seq.length) (hp : Performs i s t) : Inv t := by
  have hobs := (boardFacts_of_configOk h.config).pObs
  cases hp with
  | nop => exact inv_advance h hw
  | dbgoff => exact inv_advance (inv_disableDebug h) hw
  | vpmap hp => exact inv_advance (inv_writeVpmap h _ hp) hw
  | dirset hp => exact inv_advance (inv_writeDir h _ hp) hw
  | dirclr hp => exact inv_advance (inv_writeDir h _ hp) hw
  | outset hp => exact inv_advance (inv_writeOut h _ hp) hw
  | outclr hp => exact inv_advance (inv_writeOut h _ hp) hw
  | pincfg hp => exact inv_advance (inv_writePinCtrl h _ _ _ hp) hw
  | delay u n => exact inv_advance (inv_wait h _) hw
  | spicfg b c t r => exact inv_advance (inv_writeEthSpi h b c t r) hw
  | rdphy => exact inv_advance (inv_readBus h) (by simpa using hw)
  | idlechkPass => exact inv_advance (inv_observe h) hw
  | idlechkFail => exact inv_raiseFail (inv_observe h) hm (by simp) (lsbenc_le _) (by simp)
  | @outputShort n _ hv => exact inv_raiseShort (inv_observe (inv_driveLine h n)) hm (by simp) hv
  | @inputShort n _ _ hv =>
    exact inv_raiseShort (inv_readBus (inv_observe (inv_driveLine h n))) (by simpa using hm) (by simp) hv
  | @linetestPass n _ _ _ =>
    have hbus := inv_readBus (inv_observe (inv_driveLine h n))
    exact inv_advance (inv_clearDirBits hbus _ (by simpa using hobs)) (by simpa [clearDirBits] using hw)
  | fail hc =>
    simp only [Instr.wf, countLegal, Bool.and_eq_true, decide_eq_true_eq] at hc
    obtain ⟨⟨hl, hsc⟩, he⟩ := hc
    exact inv_raiseFail h hm hl hsc he
  | heartbeat => exact inv_heartbeat h hm
  | illegal => exact inv_haltIllegal h _

theorem modePerforms_keeps_inv {s t : State} (h : Inv s) (hp : ModePerforms s t) : Inv t := by
  cases hp with
  | word hm hw _ hp => exact performs_keeps_inv h hm (advance_upc_toNat h.sequence hw).2 hp
  | illegal => exact inv_haltIllegal h _
  | overrun hm => exact inv_raiseHalt_overrun h hm
  | blink hm =>
    obtain ⟨c, hc⟩ := Option.isSome_iff_exists.mp (h.blinkHasCode hm)
    obtain ⟨b, hb⟩ := Option.isSome_iff_exists.mp (h.codeWithBlink ▸ h.blinkHasCode hm)
    simpa [hc, hb] using inv_blinkPart h hc hb
  | heart hm =>
    obtain ⟨p, hp⟩ := Option.isSome_iff_exists.mp (h.heartHasCounter hm)
    simpa [hp] using inv_heartPart h hp
  | halt => exact h

/-- Settles O17, by the outcomes of a step: each is a chain of updates that keep the invariant one at a time. -/
theorem stepKeepsInv : Obligations.StepKeepsInv := by
  intro s t h hstep
  obtain ⟨-, ⟨u, r, hu, rfl, -⟩ | ⟨events, rfl, -⟩⟩ := step_next hstep
  · exact inv_resetIn (modePerforms_keeps_inv h (modePerforms_of_modeStep hu)) r
  · exact inv_takeReset h events

end Sys2Proof.Proofs
end

section
/-! PROOFS. Two machines that differ only in registers no rule reads stay so: each update answers alike of them. -/

namespace Sys2Proof.Proofs

open Sys2Proof.Machine Sys2Proof.Safety Sys2Proof.Laws

/-- Two states equal but for the registers no rule reads. -/
def Alike (s t : State) : Prop := forget s = forget t

/-- The controls of a port with their PULLUP bits blanked, as `forget` blanks them. -/
def blankPort (port : Vector PinCtrl 8) : Vector PinCtrl 8 := port.map fun pin => ⟨false, pin.inven⟩

theorem forget_pinctrl (s : State) : (forget s).pinctrl = s.pinctrl.map blankPort := rfl

/-! Blanking and the register files. -/

theorem getPort_map {α β : Type} (f : α → β) (v : Vector α 16) (p : PortNo) :
    getPort (v.map f) p = f (getPort v p) := by simp [getPort]

theorem setPort_map {α β : Type} (f : α → β) (v : Vector α 16) (p : PortNo) (x : α) :
    (setPort v p x).map f = setPort (v.map f) p (f x) := by simp [setPort]

theorem blankPort_setPin (port : Vector PinCtrl 8) (pin : PinNo) (x : PinCtrl) :
    blankPort (setPin port pin x) = setPin (blankPort port) pin ⟨false, x.inven⟩ := by simp [blankPort, setPin]

/-- The inversion of the input path does not depend on the PULLUP bits. -/
theorem invMask_blankPort (port : Vector PinCtrl 8) : invMask (blankPort port) = invMask port := by
  simp [invMask, blankPort, getPin]

theorem sampled_forget (p : PortNo) (s : State) : sampled p (forget s) = sampled p s := by
  rw [sampled, forget_pinctrl, getPort_map, invMask_blankPort]
  rfl

/-- What reads the blanked states alone is equal of two alike ones. -/
theorem Alike.apply {s t : State} (h : Alike s t) {α : Type} (f : State → α) : f (forget s) = f (forget t) :=
  congrArg f h

/-! What two alike states share. -/

section

variable {s t : State} (h : Alike s t)
include h

theorem Alike.cfg : s.cfg = t.cfg := h.apply State.cfg

theorem Alike.upc : s.upc = t.upc := h.apply State.upc

theorem Alike.mode : s.mode = t.mode := h.apply State.mode

theorem Alike.code : s.code = t.code := h.apply State.code

theorem Alike.blink : s.blink = t.blink := h.apply State.blink

theorem Alike.heart : s.heart = t.heart := h.apply State.heart

theorem Alike.trace : s.trace = t.trace := h.apply State.trace

theorem Alike.resetIn : s.resetIn = t.resetIn := h.apply State.resetIn

theorem Alike.fetch : fetch s = fetch t := h.apply Machine.fetch

theorem Alike.bootRefusal : bootRefusal s = bootRefusal t := h.apply Machine.bootRefusal

theorem Alike.takeReset (events : List Event) : takeReset events s = takeReset events t :=
  h.apply (Machine.takeReset events)

theorem Alike.pinsNow (p : PortNo) : pinsNow p s = pinsNow p t := h.apply (Machine.pinsNow p)

theorem Alike.sampled (p : PortNo) : sampled p s = sampled p t := by
  rw [← sampled_forget p s, ← sampled_forget p t, h]

theorem Alike.readPhy_value : (readPhy s).1 = (readPhy t).1 := by
  rw [Laws.readPhy_value, Laws.readPhy_value, h.cfg, h.sampled]

/-! Each update leaves alike states alike. -/

theorem Alike.advance : Alike (advance s) (advance t) := h.apply Machine.advance

theorem Alike.wait (d : WaitTime) : Alike (wait d s) (wait d t) := h.apply (Machine.wait d)

theorem Alike.disableDebug : Alike (disableDebug s) (disableDebug t) :=
  h.apply (fun u => record .dbgW (record (.keyW u.cfg.ccpKey) u))

theorem Alike.writeVpmap (k : VPortNo) (p : PortNo) : Alike (writeVpmap k p s) (writeVpmap k p t) :=
  h.apply (record (.vpW k p))

theorem Alike.writeEthSpi (b : Byte) (c u r : Bool) : Alike (writeEthSpi b c u r s) (writeEthSpi b c u r t) :=
  h.apply (record (.spiW b c u r))

theorem Alike.setDirBits (p : PortNo) (m : Byte) : Alike (setDirBits p m s) (setDirBits p m t) :=
  h.apply (Machine.setDirBits p m)

theorem Alike.clearDirBits (p : PortNo) (m : Byte) : Alike (clearDirBits p m s) (clearDirBits p m t) :=
  h.apply (Machine.clearDirBits p m)

theorem Alike.setOutBits (p : PortNo) (m : Byte) : Alike (setOutBits p m s) (setOutBits p m t) :=
  h.apply (Machine.setOutBits p m)

theorem Alike.clearOutBits (p : PortNo) (m : Byte) : Alike (clearOutBits p m s) (clearOutBits p m t) :=
  h.apply (Machine.clearOutBits p m)

/-- Two writes of one pin's controls blank alike, since INVEN is written alike. -/
theorem Alike.writePinCtrl (p : PortNo) (pin : PinNo) (a v : Bool) :
    Alike (writePinCtrl p pin a v s) (writePinCtrl p pin a v t) := by
  have hpins : s.pinctrl.map blankPort = t.pinctrl.map blankPort := h.apply State.pinctrl
  have hport : blankPort (getPort s.pinctrl p) = blankPort (getPort t.pinctrl p) := by
    rw [← getPort_map blankPort, ← getPort_map blankPort, hpins]
  have hwritten : (Machine.writePinCtrl p pin a v s).pinctrl.map blankPort =
      (Machine.writePinCtrl p pin a v t).pinctrl.map blankPort := by
    simp only [writePinCtrl_pinctrl, setPort_map, blankPort_setPin, hpins, hport]
  calc forget (Machine.writePinCtrl p pin a v s)
      = { record (.ctrlW p pin a v) (forget s) with
          pinctrl := (Machine.writePinCtrl p pin a v s).pinctrl.map blankPort } := rfl
    _ = { record (.ctrlW p pin a v) (forget t) with
          pinctrl := (Machine.writePinCtrl p pin a v t).pinctrl.map blankPort } := by rw [h, hwritten]
    _ = forget (Machine.writePinCtrl p pin a v t) := rfl

theorem Alike.raiseFail (l sc e : Count) : Alike (raiseFail l sc e s) (raiseFail l sc e t) :=
  h.apply (Machine.raiseFail l sc e)

theorem Alike.raiseHalt (c : HaltCause) : Alike (raiseHalt c s) (raiseHalt c t) :=
  h.apply (fun u => record (.halt c) { u with mode := .halt })

theorem Alike.haltIllegal (w : Word) : Alike (haltIllegal w s) (haltIllegal w t) := Alike.raiseHalt h .illegal

theorem Alike.heartbeat : Alike { s with mode := .heart, heart := some ⟨0, .off⟩ }
    { t with mode := .heart, heart := some ⟨0, .off⟩ } :=
  h.apply fun u => ({ u with mode := .heart, heart := some ⟨0, .off⟩ } : State)

theorem Alike.resetIn_write (r : List Nat) : Alike { s with resetIn := r } { t with resetIn := r } :=
  h.apply fun u => ({ u with resetIn := r } : State)

theorem Alike.sample (p : PortNo) : Alike (sample p s) (sample p t) := by
  unfold Machine.sample
  rw [h.pinsNow, h.sampled]
  exact h.apply (fun u => record _ { u with env := u.env.tail, draws := u.draws + 1 })

theorem Alike.observe : Alike (observe s) (observe t) := by
  have hs := h.sample s.cfg.pObs
  rw [h.cfg] at hs
  unfold Machine.observe
  rw [h.cfg]
  exact hs

theorem Alike.driveLine (n : BitVec 3) : Alike (driveLine n s) (driveLine n t) :=
  h.apply (fun u => Machine.wait (.span u.cfg.tSettle) (Machine.setDirBits u.cfg.pObs (lineMask n) u))

theorem Alike.phyEnable : Alike (phyEnable s) (phyEnable t) := by
  unfold Machine.phyEnable
  rw [h.cfg]
  split
  · exact ((h.setOutBits _ _).clearOutBits _ _).clearOutBits _ _
  · exact h

theorem Alike.phyDisable : Alike (phyDisable s) (phyDisable t) := by
  unfold Machine.phyDisable
  rw [h.cfg]
  split
  · exact h.setOutBits _ _
  · exact h

theorem Alike.readBus : Alike (readBus s) (readBus t) := by
  have hr : Alike (readPhy s).2 (readPhy t).2 := by
    simp only [readPhy, h.cfg]
    exact (h.phyEnable.sample _).phyDisable
  exact hr

theorem Alike.raiseShort (f : Count) (n : BitVec 3) (v : Byte) : Alike (raiseShort f n v s) (raiseShort f n v t) :=
  Alike.raiseFail h f _ _

theorem Alike.blinkPart (c : FailCode) (b : BlinkPos) : Alike (blinkPart c b s) (blinkPart c b t) := by
  have hpush (u : State) : forget (Machine.blinkPart c b u) = Machine.blinkPart c b (forget u) := by
    unfold Machine.blinkPart
    split
    · rfl
    · split <;> rfl
  rw [Alike, hpush, hpush, h]

theorem Alike.heartPart (p : HeartPos) : Alike (heartPart p s) (heartPart p t) := by
  have hpush (u : State) : forget (Machine.heartPart p u) = Machine.heartPart p (forget u) := by
    unfold Machine.heartPart
    split <;> rfl
  rw [Alike, hpush, hpush, h]

end

/-! The outcomes. -/

/-- Two results alike: both next states alike, or one and the same stop. -/
def AlikeResult (r q : Result) : Prop := forgetResult r = forgetResult q

theorem alikeResult_next {s t : State} (h : Alike s t) : AlikeResult (.next s) (.next t) :=
  h.apply Host.Outcome.next

theorem legalOrHalt_alike {i : Instr} {s t u v : State} (h : Alike s t) (huv : Alike u v) :
    AlikeResult (legalOrHalt i s u) (legalOrHalt i t v) := by
  unfold legalOrHalt
  rw [h.cfg]
  split
  · exact alikeResult_next huv
  · exact alikeResult_next (h.haltIllegal _)

theorem execIdlechk_alike {s t : State} (h : Alike s t) : AlikeResult (execIdlechk s) (execIdlechk t) := by
  unfold execIdlechk
  rw [h.cfg, h.sampled]
  split
  · exact alikeResult_next (h.observe.raiseFail _ _ _)
  · exact alikeResult_next h.observe.advance

theorem checkBus_alike (n : BitVec 3) {s t : State} (h : Alike s t) : AlikeResult (checkBus n s) (checkBus n t) := by
  unfold checkBus
  rw [h.cfg, h.readPhy_value]
  split
  · exact alikeResult_next (h.readBus.raiseShort _ _ _)
  · exact alikeResult_next (h.readBus.clearDirBits _ _).advance

theorem execLinetest_alike (n : BitVec 3) {s t : State} (h : Alike s t) :
    AlikeResult (execLinetest n s) (execLinetest n t) := by
  have hd := h.driveLine n
  unfold execLinetest
  rw [h.cfg, hd.sampled]
  split
  · exact alikeResult_next (hd.observe.raiseShort _ _ _)
  · exact checkBus_alike n hd.observe

theorem exec_alike (i : Instr) {s t : State} (h : Alike s t) : AlikeResult (exec i s) (exec i t) := by
  cases i with
  | nop => exact alikeResult_next h.advance
  | dbgoff => exact alikeResult_next h.disableDebug.advance
  | vpmap k p => exact legalOrHalt_alike h (h.writeVpmap k p).advance
  | dirset p m => exact legalOrHalt_alike h (h.setDirBits p m).advance
  | dirclr p m => exact legalOrHalt_alike h (h.clearDirBits p m).advance
  | outset p m => exact legalOrHalt_alike h (h.setOutBits p m).advance
  | outclr p m => exact legalOrHalt_alike h (h.clearOutBits p m).advance
  | pincfg p pin a v => exact legalOrHalt_alike h (h.writePinCtrl p pin a v).advance
  | delay u n => exact alikeResult_next (h.wait _).advance
  | spicfg b c u r => exact alikeResult_next (h.writeEthSpi b c u r).advance
  | rdphy => exact alikeResult_next h.readBus.advance
  | idlechk => exact execIdlechk_alike h
  | linetest n => exact execLinetest_alike n h
  | fail l sc e => exact legalOrHalt_alike h (h.raiseFail l sc e)
  | heartbeat => exact alikeResult_next h.heartbeat
  | reserved x => exact alikeResult_next (h.haltIllegal _)

theorem runStep_alike {s t : State} (h : Alike s t) : AlikeResult (runStep s) (runStep t) := by
  unfold runStep
  rw [h.fetch, h.cfg]
  split
  · split
    · exact exec_alike _ h
    · exact alikeResult_next (h.haltIllegal _)
  · exact alikeResult_next (h.raiseHalt _)
  · rfl

theorem modeStep_alike {s t : State} (h : Alike s t) : AlikeResult (modeStep s) (modeStep t) := by
  unfold modeStep
  rw [h.mode]
  split
  · exact runStep_alike h
  · unfold blinkStep
    rw [h.code, h.blink]
    exact alikeResult_next (h.blinkPart _ _)
  · unfold heartStep
    rw [h.heart]
    exact alikeResult_next (h.heartPart _)
  · exact alikeResult_next h

/-- Whether a reset falls inside a step depends on the trace and the inputs alone. -/
theorem underReset_alike {s t : State} (h : Alike s t) {r q : Result} (hrq : AlikeResult r q) :
    AlikeResult (underReset s r) (underReset t q) := by
  unfold underReset
  rw [h.resetIn]
  split
  · exact hrq
  · rw [h.takeReset]
    rfl
  · next k later _ =>
    cases r with
    | next u =>
      cases q with
      | next v =>
        have huv : Alike u v := Host.Outcome.next.inj hrq
        have hnew : newEvents s u = newEvents t v := by rw [newEvents, newEvents, h.trace, huv.trace]
        simp only [hnew, h.takeReset]
        split_ifs
        · rfl
        · exact alikeResult_next (huv.resetIn_write _)
      | fault f => cases hrq
      | refused f => cases hrq
    | fault f => cases q <;> cases hrq; rfl
    | refused f => cases q <;> cases hrq; rfl

/-- Settles O23: every update of a step leaves alike states alike, and what a step depends on is the same in both. -/
theorem unreadRegistersNeverMatter : Obligations.UnreadRegistersNeverMatter := by
  intro s t h
  have h : Alike s t := h
  unfold step
  rw [h.bootRefusal]
  split
  · rfl
  · exact underReset_alike h (modeStep_alike h)

end Sys2Proof.Proofs
end

section
/-! PROOFS. The registers each micro-op writes, how UPC and MODE move, and how a run ends. -/

namespace Sys2Proof.Proofs

open Sys2Proof.Machine Sys2Proof.Safety Sys2Proof.Laws

/-- On a board without the clocked-read protocol the read of the input bus leaves OUT alone. -/
theorem readBus_out (u : State) : (readBus u).out = u.out ∨ u.cfg.clockedRead = true := by
  cases hc : u.cfg.clockedRead with
  | false => exact .inl (by rw [readBus_eq, readPhy_out, hc]; rfl)
  | true => exact .inr rfl

/-! Each register is left alone by a micro-op, or the micro-op is one of its writers (10_state.md R32, R35 to R38). An
outcome that reads a port keeps a register by the lemmas on that read; every other outcome keeps it by
computation. -/

section

variable {i : Instr} {s t : State} (hp : Performs i s t)
include hp

/-- No micro-op changes the configuration, the sequence ROM or the resets still to come (20_memory.md R69). -/
theorem performs_fixed : t.cfg = s.cfg ∧ t.seq = s.seq ∧ t.resetIn = s.resetIn := by
  cases hp with
  | rdphy | outputShort | inputShort | linetestPass => simp [raiseShort, clearDirBits]
  | _ => exact ⟨rfl, rfl, rfl⟩

theorem performs_dir : t.dir = s.dir ∨ (∃ p m, i = .dirset p m) ∨ (∃ p m, i = .dirclr p m) ∨ ∃ n, i = .linetest n := by
  cases hp with
  | dirset => exact .inr (.inl ⟨_, _, rfl⟩)
  | dirclr => exact .inr (.inr (.inl ⟨_, _, rfl⟩))
  | outputShort | inputShort | linetestPass => exact .inr (.inr (.inr ⟨_, rfl⟩))
  | rdphy => exact .inl (by simp)
  | _ => exact .inl rfl

theorem performs_out : t.out = s.out ∨ (∃ p m, i = .outset p m) ∨ (∃ p m, i = .outclr p m) ∨
    (s.cfg.clockedRead = true ∧ (i = .rdphy ∨ ∃ n, i = .linetest n)) := by
  cases hp with
  | outset => exact .inr (.inl ⟨_, _, rfl⟩)
  | outclr => exact .inr (.inr (.inl ⟨_, _, rfl⟩))
  | rdphy =>
    rcases readBus_out s with ho | hc
    · exact .inl (by simp [ho])
    · exact .inr (.inr (.inr ⟨hc, .inl rfl⟩))
  | outputShort => exact .inl (by simp [raiseShort])
  | @inputShort n | @linetestPass n =>
    rcases readBus_out (observe (driveLine n s)) with ho | hc
    · exact .inl (by simp [raiseShort, clearDirBits, ho])
    · exact .inr (.inr (.inr ⟨hc, .inr ⟨_, rfl⟩⟩))
  | _ => exact .inl rfl

theorem performs_pinctrl : t.pinctrl = s.pinctrl ∨ ∃ p pin a v, i = .pincfg p pin a v := by
  cases hp with
  | pincfg => exact .inr ⟨_, _, _, _, rfl⟩
  | rdphy | outputShort | inputShort | linetestPass => exact .inl (by simp [raiseShort, clearDirBits])
  | _ => exact .inl rfl

theorem performs_dbgEn : t.dbgEn = s.dbgEn ∨ i = .dbgoff ∧ t.dbgEn = false := by
  cases hp with
  | dbgoff => exact .inr ⟨rfl, rfl⟩
  | rdphy | outputShort | inputShort | linetestPass => exact .inl (by simp [raiseShort, clearDirBits])
  | _ => exact .inl rfl

theorem performs_vpmap : t.vpmap = s.vpmap ∨ ∃ k p, i = .vpmap k p := by
  cases hp with
  | vpmap => exact .inr ⟨_, _, rfl⟩
  | rdphy | outputShort | inputShort | linetestPass => exact .inl (by simp [raiseShort, clearDirBits])
  | _ => exact .inl rfl

theorem performs_ethSpi : t.ethSpi = s.ethSpi ∨ ∃ b c u r, i = .spicfg b c u r := by
  cases hp with
  | spicfg => exact .inr ⟨_, _, _, _, rfl⟩
  | rdphy | outputShort | inputShort | linetestPass => exact .inl (by simp [raiseShort, clearDirBits])
  | _ => exact .inl rfl

theorem performs_obsv : t.obsv = s.obsv ∨ i = .idlechk ∨ ∃ n, i = .linetest n := by
  cases hp with
  | idlechkPass | idlechkFail => exact .inr (.inl rfl)
  | outputShort | inputShort | linetestPass => exact .inr (.inr ⟨_, rfl⟩)
  | rdphy => exact .inl (by simp)
  | _ => exact .inl rfl

theorem performs_phyv : t.phyv = s.phyv ∨ i = .rdphy ∨ ∃ n, i = .linetest n := by
  cases hp with
  | rdphy => exact .inr (.inl rfl)
  | outputShort | inputShort | linetestPass => exact .inr (.inr ⟨_, rfl⟩)
  | _ => exact .inl rfl

theorem performs_line_mask_resid :
    (t.line = s.line ∧ t.mask = s.mask ∧ t.resid = s.resid) ∨ ∃ n, i = .linetest n := by
  cases hp with
  | outputShort | inputShort | linetestPass => exact .inr ⟨_, rfl⟩
  | rdphy => exact .inl (by simp)
  | _ => exact .inl ⟨rfl, rfl, rfl⟩

theorem performs_heart : t.heart = s.heart ∨ i = .heartbeat := by
  cases hp with
  | heartbeat => exact .inr rfl
  | rdphy | outputShort | inputShort | linetestPass => exact .inl (by simp [raiseShort, clearDirBits])
  | _ => exact .inl rfl

/-- The failure code and the blink loop's position are written where BLINK is entered. -/
theorem performs_code_blink : (t.code = s.code ∧ t.blink = s.blink) ∨
    t.mode = .blink ∧ (i = .idlechk ∨ (∃ n, i = .linetest n) ∨ ∃ l c e, i = .fail l c e) := by
  cases hp with
  | idlechkFail => exact .inr ⟨rfl, .inl rfl⟩
  | outputShort | inputShort => exact .inr ⟨rfl, .inr (.inl ⟨_, rfl⟩)⟩
  | fail => exact .inr ⟨rfl, .inr (.inr ⟨_, _, _, rfl⟩)⟩
  | rdphy | linetestPass => exact .inl (by simp [clearDirBits])
  | _ => exact .inl ⟨rfl, rfl⟩

/-- HALT_CAUSE and HALT_WORD are written by an ILLEGAL micro-op alone (30_encoding.md R84). -/
theorem performs_halt_registers : (t.haltCause = s.haltCause ∧ t.haltWord = s.haltWord) ∨
    t.mode = .halt ∧ t.haltCause = .illegal ∧ t.haltWord = some (encode i) ∧
      (i.wf s.cfg.nports = false ∨ ∃ x, i = .reserved x) := by
  cases hp with
  | illegal hi => exact .inr ⟨rfl, rfl, rfl, hi⟩
  | rdphy | outputShort | inputShort | linetestPass => exact .inl (by simp [raiseShort, clearDirBits])
  | _ => exact .inl ⟨rfl, rfl⟩

/-- The ways a micro-op can end: it advances in its mode, or enters a terminal state and leaves UPC (10_state.md R24). -/
theorem performs_mode_upc :
    (t.mode = s.mode ∧ t.upc = s.upc + 1) ∨
    (t.upc = s.upc ∧
      ((t.mode = .blink ∧ (i = .idlechk ∨ (∃ n, i = .linetest n) ∨ ∃ l c e, i = .fail l c e)) ∨
        (t.mode = .heart ∧ i = .heartbeat) ∨
        (t.mode = .halt ∧ (i.wf s.cfg.nports = false ∨ ∃ x, i = .reserved x)))) := by
  cases hp with
  | idlechkFail => exact .inr ⟨rfl, .inl ⟨rfl, .inl rfl⟩⟩
  | outputShort | inputShort => exact .inr ⟨by simp [raiseShort], .inl ⟨rfl, .inr (.inl ⟨_, rfl⟩)⟩⟩
  | fail => exact .inr ⟨rfl, .inl ⟨rfl, .inr (.inr ⟨_, _, _, rfl⟩)⟩⟩
  | heartbeat => exact .inr ⟨rfl, .inr (.inl ⟨rfl, rfl⟩)⟩
  | illegal hi => exact .inr ⟨rfl, .inr (.inr ⟨rfl, hi⟩)⟩
  | rdphy | linetestPass => exact .inl (by simp [clearDirBits])
  | _ => exact .inl ⟨rfl, rfl⟩

/-- In short: one word on in the same mode, or a terminal state with UPC kept. -/
theorem performs_advances_or_ends :
    (t.mode = s.mode ∧ t.upc = s.upc + 1) ∨ (t.mode ≠ .run ∧ t.upc = s.upc) :=
  (performs_mode_upc hp).imp id fun ⟨hu, hm⟩ => by
    rcases hm with ⟨hm, -⟩ | ⟨hm, -⟩ | ⟨hm, -⟩ <;> exact ⟨by simp [hm], hu⟩

end

/-- Settles O24: register by register, a micro-op that is none of its writers leaves it. -/
theorem portRegisterWriters : Obligations.PortRegisterWriters := by
  intro i s t h
  have hp := performs_of_exec h
  exact ⟨(performs_dir hp).resolve_left, (performs_out hp).resolve_left, (performs_pinctrl hp).resolve_left,
    (performs_dbgEn hp).resolve_left, (performs_vpmap hp).resolve_left, (performs_ethSpi hp).resolve_left⟩

/-- Settles O25: register by register; MODE and UPC move together. -/
theorem sequencerRegisterWriters : Obligations.SequencerRegisterWriters := by
  intro i s t h
  have hp := performs_of_exec h
  refine ⟨(performs_obsv hp).resolve_left, (performs_phyv hp).resolve_left, fun hne => ?_, fun hne => ?_,
    (performs_heart hp).resolve_left, fun hne => ?_, fun hne => ?_, ?_⟩
  · exact (performs_line_mask_resid hp).resolve_left fun ⟨hl, hm, hr⟩ => by simp [hl, hm, hr] at hne
  · exact (performs_code_blink hp).resolve_left fun ⟨hc, hb⟩ => by simp [hc, hb] at hne
  · exact (performs_halt_registers hp).resolve_left fun ⟨hc, hw⟩ => by simp [hc, hw] at hne
  · exact ((performs_mode_upc hp).resolve_left fun ⟨hm, _⟩ => hne hm).2
  · obtain ⟨-, hu⟩ | ⟨hu, hend⟩ := performs_mode_upc hp
    · exact .inl hu
    · rcases hend with ⟨hm, hi | hi | hi⟩ | ⟨hm, hi⟩ | ⟨hm, hi | hi⟩ <;> exact .inr ⟨hu, by simp [hm], by simp [hi]⟩

end Sys2Proof.Proofs
end

section
/-! PROOFS. The step in each mode, how a run ends, the state after reset, and what pins drive and read. -/

namespace Sys2Proof.Proofs

open Sys2Proof.Machine Sys2Proof.Safety Sys2Proof.Laws

/-! A step in RUN (10_state.md R24). -/

/-- One word on in RUN, or a terminal state with UPC kept. -/
theorem modePerforms_run {s t : State} (hs : sequenceOk s.seq = true) (hm : s.mode = .run) (hp : ModePerforms s t) :
    (t.mode = .run ∧ t.upc.toNat = s.upc.toNat + 1 ∧ s.upc.toNat < s.seq.length) ∨ (t.mode ≠ .run ∧ t.upc = s.upc) := by
  cases hp with
  | word _ hw _ hp =>
    obtain ⟨hnext, hlt⟩ := advance_upc_toNat hs hw
    obtain ⟨hmode, hupc⟩ | hend := performs_advances_or_ends hp
    · exact .inl ⟨hmode.trans hm, by rw [hupc, hnext], hlt⟩
    · exact .inr hend
  | illegal => exact .inr ⟨by simp, rfl⟩
  | overrun => exact .inr ⟨by simp, rfl⟩
  | blink hm' => simp [hm] at hm'
  | heart hm' => simp [hm] at hm'
  | halt hm' => simp [hm] at hm'

/-- Settles O13, from the outcomes of a step in RUN. -/
theorem runStepAdvancesOrEnds : Obligations.RunStepAdvancesOrEnds := by
  intro s t hm hr h
  have hs := sequenceOk_of_bootRefusal (step_next h).1
  exact (modePerforms_run hs hm (modePerforms_of_step hr h)).imp (fun ⟨hrun, hupc, _⟩ => ⟨hrun, hupc⟩) id

/-! A run that starts in RUN (10_state.md R24, R25). -/

/-- With no reset input, no step changes the sequence, and none makes a reset pending. -/
theorem modePerforms_fixed {s t : State} (hp : ModePerforms s t) : t.seq = s.seq ∧ t.resetIn = s.resetIn := by
  cases hp with
  | word _ _ _ hp => exact (performs_fixed hp).2
  | illegal => exact ⟨rfl, rfl⟩
  | overrun => exact ⟨rfl, rfl⟩
  | blink => rw [blinkPart_eq]; exact ⟨rfl, rfl⟩
  | heart => rw [heartPart_eq]; exact ⟨rfl, rfl⟩
  | halt => exact ⟨rfl, rfl⟩

theorem core_run_succ {s t : State} (k : Nat) (h : step s = .next t) :
    Host.Core.run Sys2Proof.core (k + 1) s = Host.Core.run Sys2Proof.core k t := by
  have hcore : Sys2Proof.core.step s = .next t := h
  simp only [Host.Core.run, hcore]

/-- By induction on a bound of the words left: each step that stays in RUN uses one up. -/
theorem run_ends_of_words_left (n : Nat) (s : State) (hs : sequenceOk s.seq = true) (hm : s.mode = .run)
    (hr : s.resetIn = []) (hu : s.upc.toNat ≤ s.seq.length) (hn : s.seq.length - s.upc.toNat < n) :
    ∃ (k : Nat) (t : State), 1 ≤ k ∧ k ≤ s.seq.length - s.upc.toNat + 1 ∧
      Host.Core.run Sys2Proof.core k s = .next t ∧ t.mode ≠ .run := by
  induction n generalizing s with
  | zero => omega
  | succ n ih =>
    obtain ⟨u, hmode, hp⟩ := modeStep_performs s fun _ => hu
    have hstep : step s = .next u := (step_eq_modeStep (bootRefusal_eq_none hs) hr).trans hmode
    obtain ⟨hrun, hupc, hlt⟩ | ⟨hend, -⟩ := modePerforms_run hs hm hp
    · obtain ⟨hseq, hreset⟩ := modePerforms_fixed hp
      obtain ⟨k, t, hk, hle, ht, hend⟩ :=
        ih u (hseq ▸ hs) hrun (hreset.trans hr) (by rw [hupc, hseq]; exact hlt) (by rw [hupc, hseq]; omega)
      rw [hupc, hseq] at hle
      exact ⟨k + 1, t, by omega, by omega, (core_run_succ k hstep).trans ht, hend⟩
    · exact ⟨1, u, le_rfl, by omega, core_run_succ 0 hstep, hend⟩

/-- Settles O15: the words left are at most the whole sequence. -/
theorem runEndsWithinSequence : Obligations.RunEndsWithinSequence := fun s hb hm hr hu =>
  run_ends_of_words_left _ s (sequenceOk_of_bootRefusal hb) hm hr hu (Nat.lt_succ_self _)

/-! The terminal modes (10_state.md R25). -/

theorem getLsbD_bit (pin i : PinNo) : (bit pin).getLsbD i.toNat = decide (i = pin) := by
  revert pin i
  decide

/-- The mask of a line has that line's bit alone. -/
theorem getLsbD_lineMaskOf (l : Line) (i : PinNo) : (lineMaskOf l).getLsbD i.toNat = decide (i = l.pin) :=
  getLsbD_bit l.pin i

/-- `SameBut l d e`: two direction files equal in every bit but the line `l`'s. -/
def SameBut (l : Line) (d e : Vector Byte 16) : Prop :=
  ∀ (p : PortNo) (i : PinNo), (p ≠ l.port ∨ i ≠ l.pin) → (getPort d p).getLsbD i.toNat = (getPort e p).getLsbD i.toNat

theorem ledOn_sameBut (s : State) : SameBut s.cfg.led (ledOn s).dir s.dir := by
  intro p i hne
  rw [ledOn_eq, setDirBits_eq, getPort_setPort]
  split
  · next hp =>
    have hi : i ≠ s.cfg.led.pin := hne.resolve_left (by simp [hp])
    subst hp
    simp [getLsbD_lineMaskOf, hi]
  · rfl

theorem ledOff_sameBut (s : State) : SameBut s.cfg.led (ledOff s).dir s.dir := by
  intro p i hne
  rw [ledOff_eq, clearDirBits_eq, getPort_setPort]
  split
  · next hp =>
    have hi : i ≠ s.cfg.led.pin := hne.resolve_left (by simp [hp])
    subst hp
    simpa [getLsbD_lineMaskOf, hi] using fun _ => i.isLt
  · rfl

theorem blinkPart_sameBut (c : FailCode) (b : BlinkPos) (s : State) :
    SameBut s.cfg.led (blinkPart c b s).dir s.dir := by
  unfold blinkPart
  split
  · exact ledOff_sameBut s
  · split
    · exact ledOn_sameBut s
    · exact fun _ _ _ => rfl

theorem heartPart_sameBut (h : HeartPos) (s : State) : SameBut s.cfg.led (heartPart h s).dir s.dir := by
  unfold heartPart
  split
  · exact ledOn_sameBut s
  · exact ledOff_sameBut s

/-- Settles O14, mode by mode: a part of a loop changes DIR, the trace and its own position. -/
theorem terminalModesStay : Obligations.TerminalModesStay := by
  intro s t hm hr h
  cases modePerforms_of_step hr h with
  | word hm' => exact absurd hm' hm
  | illegal hm' => exact absurd hm' hm
  | overrun hm' => exact absurd hm' hm
  | blink =>
    have hdir := blinkPart_sameBut (s.code.getD Config.absentCode) (s.blink.getD Config.absentBlink) s
    rw [blinkPart_eq]
    exact ⟨rfl, rfl, rfl, rfl, rfl, rfl, rfl, rfl, rfl, rfl, rfl, rfl, rfl, rfl, rfl, rfl, hdir⟩
  | heart =>
    have hdir := heartPart_sameBut (s.heart.getD Config.absentHeart) s
    rw [heartPart_eq]
    exact ⟨rfl, rfl, rfl, rfl, rfl, rfl, rfl, rfl, rfl, rfl, rfl, rfl, rfl, rfl, rfl, rfl, hdir⟩
  | halt => exact ⟨rfl, rfl, rfl, rfl, rfl, rfl, rfl, rfl, rfl, rfl, rfl, rfl, rfl, rfl, rfl, rfl, fun _ _ _ => rfl⟩

/-! Single steps. -/

/-- Settles O9: in RUN the selected step is exec of the fetched word. -/
theorem stepRunsDecoded : Obligations.StepRunsDecoded := by
  intro s w i hb hm hw hd
  have hmode : modeStep s = exec i s := by simp only [modeStep, hm, runStep_decoded hw hd]
  exact ⟨by rw [step_of_boot hb, hmode], fun hr => by rw [step_eq_modeStep hb hr, hmode]⟩

/-- Settles O10: the fetch at SEQ_LEN finds the overrun. -/
theorem overrunHalts : Obligations.OverrunHalts := by
  intro s hb hm hr hu
  rw [step_eq_modeStep hb hr]
  simp only [modeStep, hm, runStep_overrun hu]
  rfl

/-- Settles O12: the step HALT selects is the state itself. -/
theorem haltIsStuck : Obligations.HaltIsStuck := by
  intro s hb hm hr
  rw [step_eq_modeStep hb hr]
  simp only [modeStep, hm]

/-! Reset (10_state.md R45). -/

/-- After reset the registers of a port are all clear. -/
theorem initial_ports (cfg : Config) (seq : List Word) (p : PortNo) :
    getPort (State.initial cfg seq).dir p = 0 ∧ getPort (State.initial cfg seq).out p = 0 ∧
      ∀ i, getPin (getPort (State.initial cfg seq).pinctrl p) i = ⟨false, false⟩ := by
  simp [State.initial, PinCtrl.reset]

/-- Settles O5: a reset taken sets every register as a fresh machine has it. -/
theorem resetState : Obligations.ResetState := by
  rintro cfg seq events s rfl rfl t ht
  have hdark : (getPort (State.initial s.cfg s.seq).dir s.cfg.led.port).getLsbD s.cfg.led.pin.toNat = false := by
    simp [(initial_ports s.cfg s.seq _).1]
  rcases ht with rfl | rfl
  all_goals
    exact ⟨rfl, rfl, rfl, rfl, rfl, rfl, rfl, rfl, rfl, rfl, initial_ports s.cfg s.seq, rfl,
      fun k => getVPort_replicate 0 k, rfl, rfl, rfl, rfl, rfl, ledLit_dark hdark⟩

/-- Settles O16; the reference board and its standard sequence are legal by evaluation. -/
theorem invHoldsAfterReset : Obligations.InvHoldsAfterReset :=
  ⟨inv_initial (by decide) (by decide), fun _ _ => inv_initial⟩

/-! What pins drive and read (10_state.md R28 to R34). -/

theorem ledLit_ledOff (s : State) : ledLit (ledOff s) = false :=
  ledLit_dark (by simp [ledOff_eq, clearDirBits_eq, getLsbD_lineMaskOf])

/-- Settles O36, from the two cases of the indicator's view and the line's own bit under LedOn and LedOff. -/
theorem directionDecidesDrive : Obligations.DirectionDecidesDrive := by
  intro s p i
  refine ⟨fun hd => ?_, fun hd hi => ?_, ledLit_dark, fun ho => ⟨⟨fun hl => ?_, fun hd => ledLit_lit hd ho⟩, ?_⟩,
    ledLit_ledOff s⟩
  · simp [driven, hd]
  · simp [driven, hd, hi]
  · by_contra hd
    simp [ledLit_dark (Bool.eq_false_iff.mpr hd)] at hl
  · exact ledLit_lit (by simp [ledOn_eq, setDirBits_eq, getLsbD_lineMaskOf]) ho

/-- Bit i of the inversion mask is the INVEN bit of pin i (10_state.md R33). -/
theorem getLsbD_invMask (pc : Vector PinCtrl 8) (i : PinNo) : (invMask pc).getLsbD i.toNat = (getPin pc i).inven := by
  have hi : i = 0 ∨ i = 1 ∨ i = 2 ∨ i = 3 ∨ i = 4 ∨ i = 5 ∨ i = 6 ∨ i = 7 := by revert i; decide
  simp only [invMask, BitVec.getLsbD_append, BitVec.getLsbD_ofBool]
  rcases hi with rfl | rfl | rfl | rfl | rfl | rfl | rfl | rfl <;> simp

/-- Settles O37, from the bits of the inversion mask. -/
theorem readSamplesPins : Obligations.ReadSamplesPins :=
  ⟨fun s p i => by rw [sampled, BitVec.getLsbD_xor, getLsbD_invMask], fun _ _ => rfl,
    fun s p v rest => pinsNow_cons p { s with env := v :: rest } v rest rfl⟩

end Sys2Proof.Proofs
end

section
/-! PROOFS. What a step records: its events tell the registers it leaves, keep the key before the debug disable, and stand
after the events of the steps before (20_memory.md R63, R64, R68). -/

namespace Sys2Proof.Proofs

open Sys2Proof.Machine Sys2Proof.Safety Sys2Proof.Laws

/-! The protected write in a list of events (20_memory.md R63, R68). -/

/-- Every debug disable among the events stands directly after a write of the key among them. -/
def KeyGuards (key : Byte) (events : List Event) : Prop :=
  ∀ before after, events = before ++ Event.dbgW :: after → ∃ first, before = first ++ [.keyW key]

theorem keyGuarded_iff (s : State) : KeyGuarded s ↔ KeyGuards s.cfg.ccpKey s.trace := Iff.rfl

theorem keyGuards_of_notMem {key : Byte} {events : List Event} (h : .dbgW ∉ events) : KeyGuards key events := by
  rintro before after rfl
  simp at h

/-- The pair DBGOFF writes (40_board_init.md R101). -/
theorem keyGuards_pair (key : Byte) : KeyGuards key [.keyW key, .dbgW] := by
  intro before after h
  match before with
  | [] => simp at h
  | [e] =>
    obtain ⟨rfl, -⟩ : .keyW key = e ∧ [] = after := by simpa using h
    exact ⟨[], rfl⟩
  | _ :: _ :: rest => simp at h

/-- Where two guarded lists meet nothing is unguarded: the second one guards a disable at its own head. -/
theorem KeyGuards.append {key : Byte} {l m : List Event} (hl : KeyGuards key l) (hm : KeyGuards key m) :
    KeyGuards key (l ++ m) := by
  intro before after h
  obtain ⟨mid, rfl, hmid⟩ | ⟨mid, rfl, hmid⟩ := List.append_eq_append_iff.mp h
  · obtain ⟨first, rfl⟩ := hm mid after hmid
    exact ⟨l ++ first, by simp⟩
  · cases mid with
    | nil =>
      obtain ⟨first, hfirst⟩ := hm [] after hmid.symm
      simp at hfirst
    | cons e rest =>
      obtain ⟨rfl, -⟩ := List.cons.inj hmid
      exact hl before rest rfl

/-- A step cut short by a reset records the first of its events alone (70_reset_and_hazards.md R240). -/
theorem KeyGuards.take {key : Byte} {l : List Event} (h : KeyGuards key l) (k : Nat) : KeyGuards key (l.take k) := by
  intro before after ht
  refine h before (after ++ l.drop k) ?_
  calc l = l.take k ++ l.drop k := (List.take_append_drop k l).symm
    _ = before ++ .dbgW :: (after ++ l.drop k) := by simp [ht]

/-! What lies between two states of a step in progress. -/

/-- `Tells s t`: from `s` to `t` the configuration stays and some events are recorded, which tell every change of the port and
system registers and guard the debug disable. -/
def Tells (s t : State) : Prop :=
  t.cfg = s.cfg ∧ ∃ events, t.trace = s.trace ++ events ∧ imageOf t = events.foldl applyEvent (imageOf s) ∧
    KeyGuards s.cfg.ccpKey events

theorem Tells.refl (s : State) : Tells s s := ⟨rfl, [], by simp, rfl, keyGuards_of_notMem (by simp)⟩

section

variable {s t u : State} (h : Tells s t)
include h

theorem Tells.trans (hu : Tells t u) : Tells s u := by
  obtain ⟨hcfg, l, htrace, himage, hkey⟩ := h
  obtain ⟨hcfg', m, htrace', himage', hkey'⟩ := hu
  refine ⟨hcfg'.trans hcfg, l ++ m, by simp [htrace', htrace], by simp [himage', himage], ?_⟩
  exact hkey.append (hcfg ▸ hkey')

/-- An update that records nothing and changes none of the registers the trace tells of. -/
theorem Tells.silent (hcfg : u.cfg = t.cfg) (htrace : u.trace = t.trace) (himage : imageOf u = imageOf t) :
    Tells s u :=
  h.trans ⟨hcfg, [], by simp [htrace], himage, keyGuards_of_notMem (by simp)⟩

/-- An update that records one event, which tells what it writes. -/
theorem Tells.event (e : Event) (he : .dbgW ≠ e) (hcfg : u.cfg = t.cfg) (htrace : u.trace = t.trace ++ [e])
    (himage : imageOf u = applyEvent (imageOf t) e) : Tells s u :=
  h.trans ⟨hcfg, [e], htrace, himage, keyGuards_of_notMem (by simpa using he)⟩

/-! One lemma per update of a step. -/

theorem Tells.advance : Tells s (advance t) := h.silent rfl rfl rfl

theorem Tells.wait (d : WaitTime) : Tells s (wait d t) := h.event (.wait d) (by simp) rfl rfl rfl

theorem Tells.writeDir (p : PortNo) (v : Byte) : Tells s (writeDir p v t) := h.event (.dirW p v) (by simp) rfl rfl rfl

theorem Tells.writeOut (p : PortNo) (v : Byte) : Tells s (writeOut p v t) := h.event (.outW p v) (by simp) rfl rfl rfl

theorem Tells.writePinCtrl (p : PortNo) (pin : PinNo) (a v : Bool) : Tells s (writePinCtrl p pin a v t) :=
  h.event (.ctrlW p pin a v) (by simp) rfl rfl rfl

theorem Tells.writeVpmap (k : VPortNo) (p : PortNo) : Tells s (writeVpmap k p t) :=
  h.event (.vpW k p) (by simp) rfl rfl rfl

theorem Tells.writeEthSpi (b : Byte) (c tx rx : Bool) : Tells s (writeEthSpi b c tx rx t) :=
  h.event (.spiW b c tx rx) (by simp) rfl rfl rfl

theorem Tells.disableDebug : Tells s (disableDebug t) :=
  h.trans ⟨rfl, [.keyW t.cfg.ccpKey, .dbgW], by simp, rfl, keyGuards_pair _⟩

theorem Tells.sample (p : PortNo) : Tells s (sample p t) :=
  h.event (.inR p (pinsNow p t) (sampled p t)) (by simp) rfl rfl rfl

theorem Tells.raiseFail (l sc e : Count) : Tells s (raiseFail l sc e t) := h.silent rfl rfl rfl

theorem Tells.raiseShort (f : Count) (n : BitVec 3) (v : Byte) : Tells s (raiseShort f n v t) := h.silent rfl rfl rfl

theorem Tells.raiseHalt (c : HaltCause) : Tells s (raiseHalt c t) := h.event (.halt c) (by simp) rfl rfl rfl

theorem Tells.haltIllegal (w : Word) : Tells s (haltIllegal w t) := h.event (.halt .illegal) (by simp) rfl rfl rfl

/-! The mask updates and the composites are made of these. -/

theorem Tells.setDirBits (p : PortNo) (m : Byte) : Tells s (setDirBits p m t) := h.writeDir p _

theorem Tells.clearDirBits (p : PortNo) (m : Byte) : Tells s (clearDirBits p m t) := h.writeDir p _

theorem Tells.setOutBits (p : PortNo) (m : Byte) : Tells s (setOutBits p m t) := h.writeOut p _

theorem Tells.clearOutBits (p : PortNo) (m : Byte) : Tells s (clearOutBits p m t) := h.writeOut p _

theorem Tells.ledOn : Tells s (ledOn t) := h.setDirBits _ _

theorem Tells.ledOff : Tells s (ledOff t) := h.clearDirBits _ _

theorem Tells.observe : Tells s (observe t) := (h.sample t.cfg.pObs).silent rfl rfl rfl

theorem Tells.driveLine (n : BitVec 3) : Tells s (driveLine n t) :=
  have hline : Tells s { t with line := some (lineNumber n), mask := some (lineMask n) } := h.silent rfl rfl rfl
  (hline.setDirBits _ _).wait _

theorem Tells.phyEnable : Tells s (phyEnable t) := by
  unfold Machine.phyEnable
  split
  · exact ((h.setOutBits _ _).clearOutBits _ _).clearOutBits _ _
  · exact h

theorem Tells.phyDisable : Tells s (phyDisable t) := by
  unfold Machine.phyDisable
  split
  · exact h.setOutBits _ _
  · exact h

theorem Tells.readBus : Tells s (readBus t) :=
  have hread : Tells s (readPhy t).2 := (h.phyEnable.sample _).phyDisable
  hread.silent rfl rfl rfl

theorem Tells.blinkPart (c : FailCode) (b : BlinkPos) : Tells s (blinkPart c b t) := by
  unfold Machine.blinkPart
  split
  · exact (h.ledOff.wait _).silent rfl rfl rfl
  · split
    · exact (h.ledOn.wait _).silent rfl rfl rfl
    · exact (h.wait _).silent rfl rfl rfl

theorem Tells.heartPart (p : HeartPos) : Tells s (heartPart p t) := by
  unfold Machine.heartPart
  split
  · exact (h.ledOn.wait _).silent rfl rfl rfl
  · exact (h.ledOff.wait _).silent rfl rfl rfl

end

/-! A whole step. -/

theorem performs_tells {i : Instr} {s t : State} (hp : Performs i s t) : Tells s t := by
  have h := Tells.refl s
  cases hp with
  | nop => exact h.advance
  | dbgoff => exact h.disableDebug.advance
  | vpmap => exact (h.writeVpmap _ _).advance
  | dirset => exact (h.setDirBits _ _).advance
  | dirclr => exact (h.clearDirBits _ _).advance
  | outset => exact (h.setOutBits _ _).advance
  | outclr => exact (h.clearOutBits _ _).advance
  | pincfg => exact (h.writePinCtrl _ _ _ _).advance
  | delay => exact (h.wait _).advance
  | spicfg => exact (h.writeEthSpi _ _ _ _).advance
  | rdphy => exact h.readBus.advance
  | idlechkPass => exact h.observe.advance
  | idlechkFail => exact h.observe.raiseFail _ _ _
  | outputShort => exact (h.driveLine _).observe.raiseShort _ _ _
  | inputShort => exact (h.driveLine _).observe.readBus.raiseShort _ _ _
  | linetestPass => exact ((h.driveLine _).observe.readBus.clearDirBits _ _).advance
  | fail => exact h.raiseFail _ _ _
  | heartbeat => exact h.silent rfl rfl rfl
  | illegal => exact h.haltIllegal _

theorem modePerforms_tells {s t : State} (hp : ModePerforms s t) : Tells s t := by
  have h := Tells.refl s
  cases hp with
  | word _ _ _ hp => exact performs_tells hp
  | illegal => exact h.haltIllegal _
  | overrun => exact h.raiseHalt _
  | blink => exact h.blinkPart _ _
  | heart => exact h.heartPart _
  | halt => exact h

/-- A step records what it does, or is cut by a reset after guarded events (70_reset_and_hazards.md R240). -/
theorem step_tells {s t : State} (h : step s = .next t) :
    Tells s t ∨ ∃ events, t = takeReset events s ∧ KeyGuards s.cfg.ccpKey events := by
  obtain ⟨-, ⟨u, r, hu, rfl, -⟩ | ⟨events, rfl, rfl | ⟨u, k, hu, rfl⟩⟩⟩ := step_next h
  · exact .inl ((modePerforms_tells (modePerforms_of_modeStep hu)).silent rfl rfl rfl)
  · exact .inr ⟨[], rfl, keyGuards_of_notMem (by simp)⟩
  · obtain ⟨-, events, htrace, -, hkey⟩ := modePerforms_tells (modePerforms_of_modeStep hu)
    have hnew : newEvents s u = events := by simp [newEvents, htrace]
    exact .inr ⟨_, rfl, hnew ▸ hkey.take k⟩

theorem takeReset_trace (events : List Event) (s : State) :
    (takeReset events s).trace = s.trace ++ events ++ [.reset] := rfl

/-- A reset leaves the reset image on every board: no reset value depends on the configuration (10_state.md R45). -/
theorem imageOf_takeReset (events : List Event) (s : State) : imageOf (takeReset events s) = resetImage := rfl

/-- Settles O19: what is recorded before stays guarded, and so are the events a step adds, cut by a reset or not. -/
theorem debugWriteFollowsKey : Obligations.DebugWriteFollowsKey := by
  simp only [Obligations.DebugWriteFollowsKey, keyGuarded_iff]
  refine ⟨fun s hnil => keyGuards_of_notMem (by simp [hnil]), fun s t h hstep => ?_⟩
  obtain ⟨hcfg, events, htrace, -, hkey⟩ | ⟨events, rfl, hkey⟩ := step_tells hstep
  · rw [hcfg, htrace]
    exact h.append hkey
  · rw [takeReset_trace]
    exact (h.append hkey).append (keyGuards_of_notMem (by simp))

/-- Settles O20: the new events replay what the step wrote, and Reset replays to the reset image whatever stood before. -/
theorem traceTellsRegisters : Obligations.TraceTellsRegisters := by
  refine ⟨rfl, fun s t h hstep => ?_⟩
  obtain ⟨-, events, htrace, himage, -⟩ | ⟨events, rfl, -⟩ := step_tells hstep
  · calc replay t.trace
        = events.foldl applyEvent (replay s.trace) := by rw [htrace, replay, List.foldl_append, replay]
      _ = events.foldl applyEvent (imageOf s) := by rw [h]
      _ = imageOf t := himage.symm
  · rw [TraceTells, takeReset_trace, imageOf_takeReset, replay, List.foldl_append]
    rfl

/-- Settles O21, a reset too: it records its own event and erases none. -/
theorem traceOnlyGrows : Obligations.TraceOnlyGrows := by
  intro s t hstep
  obtain ⟨-, events, htrace, -, -⟩ | ⟨events, rfl, -⟩ := step_tells hstep
  · exact ⟨events, htrace⟩
  · exact ⟨events ++ [.reset], by rw [takeReset_trace, List.append_assoc]⟩

/-- Settles O22: neither is written by a step, and a reset hands both on. -/
theorem configAndSequenceStay : Obligations.ConfigAndSequenceStay := by
  intro s t hstep
  obtain ⟨-, ⟨u, r, hu, rfl, -⟩ | ⟨events, rfl, -⟩⟩ := step_next hstep
  · have hp := modePerforms_of_modeStep hu
    obtain ⟨hcfg, -⟩ := modePerforms_tells hp
    obtain ⟨hseq, -⟩ := modePerforms_fixed hp
    exact ⟨hcfg, hseq⟩
  · exact ⟨rfl, rfl⟩

end Sys2Proof.Proofs
end

section
/-! PROOFS. Words and their fields: the encoder places each field where the decoder reads it, and a word is its fields put
together again. -/

namespace Sys2Proof.Proofs

open Sys2Proof.Machine Sys2Proof.Safety Sys2Proof.Laws

/-! A field of a word, and a field placed in a word (30_encoding.md R80, R81). -/

theorem getLsbD_field (w : Word) (lo n i : Nat) :
    (field w lo n).getLsbD i = (decide (i < n) && w.getLsbD (lo + i)) :=
  BitVec.getLsbD_extractLsb' ..

theorem getLsbD_place {n : Nat} (x : BitVec n) (lo i : Nat) :
    (place x lo).getLsbD i = (decide (i < 16) && decide (lo ≤ i) && x.getLsbD (i - lo)) := by
  by_cases hlo : lo ≤ i
  · by_cases hi : i < 16
    · simp [place, hlo, hi]
    · simp [place, hi]
  · simp [place, hlo]

theorem toNat_field (w : Word) (lo n : Nat) : (field w lo n).toNat = w.toNat / 2 ^ lo % 2 ^ n := by
  rw [field, BitVec.extractLsb'_toNat, Nat.shiftRight_eq_div_pow]

@[simp] theorem field_or (v w : Word) (lo n : Nat) : field (v ||| w) lo n = field v lo n ||| field w lo n :=
  BitVec.extractLsb'_or

@[simp] theorem field_ofNat (k lo n : Nat) (h : lo + n ≤ 16) :
    field (BitVec.ofNat 16 k) lo n = BitVec.ofNat n (k >>> lo) := by
  refine BitVec.eq_of_getLsbD_eq fun i hi => ?_
  have : lo + i < 16 := by omega
  simp only [getLsbD_field, BitVec.getLsbD_ofNat, Nat.testBit_shiftRight, hi, this, decide_true, Bool.true_and]

/-- A placed field is read back. -/
@[simp] theorem field_place_self {n : Nat} (x : BitVec n) (lo : Nat) (h : lo + n ≤ 16) :
    field (place x lo) lo n = x := by
  refine BitVec.eq_of_getLsbD_eq fun i hi => ?_
  have : lo + i < 16 := by omega
  simp [-BitVec.getLsbD_eq_getElem, getLsbD_field, getLsbD_place, hi, this]

/-- A field placed elsewhere is not read. -/
@[simp] theorem field_place_apart {m : Nat} (x : BitVec m) (pos lo n : Nat) (h : pos + m ≤ lo ∨ lo + n ≤ pos) :
    field (place x pos) lo n = 0 := by
  refine BitVec.eq_of_getLsbD_eq fun i hi => ?_
  rcases h with h | h
  · have : x.getLsbD (lo + i - pos) = false := BitVec.getLsbD_of_ge _ _ (by omega)
    simp [-BitVec.getLsbD_eq_getElem, getLsbD_field, getLsbD_place, this]
  · have : ¬ pos ≤ lo + i := by omega
    simp [-BitVec.getLsbD_eq_getElem, getLsbD_field, getLsbD_place, this]

@[simp] theorem field_width_zero (w : Word) (lo : Nat) : field w lo 0 = 0 := BitVec.of_length_zero

@[simp] theorem bitAt_or (v w : Word) (i : Nat) : bitAt (v ||| w) i = (bitAt v i || bitAt w i) :=
  BitVec.getLsbD_or

@[simp] theorem bitAt_ofNat (k i : Nat) :
    bitAt (BitVec.ofNat 16 k) i = (decide (i < 16) && decide (k / 2 ^ i % 2 = 1)) := by
  rw [bitAt, BitVec.getLsbD_ofNat, Nat.testBit_eq_decide_div_mod_eq]

@[simp] theorem bitAt_place {n : Nat} (x : BitVec n) (lo i : Nat) :
    bitAt (place x lo) i = (decide (i < 16) && decide (lo ≤ i) && x.getLsbD (i - lo)) := getLsbD_place x lo i

/-! Decoding what was encoded (30_encoding.md R80 to R83). -/

theorem decode_encode {nports : Nat} {i : Instr} (h : i.wf nports = true) : decode nports (encode i) = .ok i := by
  cases i with
  | nop | dbgoff | rdphy | idlechk | heartbeat => rfl
  | vpmap k p =>
    have hp : portExists nports p = true := h
    simp [decode, encode, decodeV, hp]
  | dirset p m | dirclr p m | outset p m | outclr p m =>
    have hp : portExists nports p = true := h
    simp [decode, encode, decodePM, hp]
  | pincfg p pin a v =>
    have hp : portExists nports p = true := h
    simp [decode, encode, decodePC, placeBit, hp]
  | delay u n => cases u <;> simp [decode, encode, decodeD, placeBit, unitBit]
  | spicfg b c t r => simp [decode, encode, decodeS, placeBit]
  | linetest n => simp [decode, encode, decodeL]
  | fail l sc e =>
    have hc : (countLegal l && countLegal sc && countLegal e) = true := h
    simp [decode, encode, decodeF, hc]
  | reserved x => simp [decode, encode]

/-- Settles O1: each field is read where the encoder placed it, and the operands pass the decoder's checks. -/
theorem decodeOfEncode : Obligations.DecodeOfEncode := fun _ _ => decode_encode

/-! A word is its fields put together again (30_encoding.md R80, R81). -/

/-- A field is its upper and its lower part, each in its place. -/
theorem place_field_split (w : Word) (lo n m : Nat) :
    place (field w lo (n + m)) lo = place (field w (lo + n) m) (lo + n) ||| place (field w lo n) lo := by
  refine BitVec.eq_of_getLsbD_eq fun i hi => ?_
  simp only [BitVec.getLsbD_or, getLsbD_place, getLsbD_field]
  by_cases hlo : lo ≤ i
  · by_cases hm : lo + n ≤ i
    · have : ¬ i - lo < n := by omega
      have : i - lo < n + m ↔ i - (lo + n) < m := by omega
      simp [-BitVec.getLsbD_eq_getElem, *]
    · have : i - lo < n := by omega
      have : i - lo < n + m := by omega
      simp [-BitVec.getLsbD_eq_getElem, *]
  · have : ¬ lo + n ≤ i := by omega
    simp [*]

theorem place_field_whole (w : Word) : place (field w 0 16) 0 = w := by
  simp [place, field]

@[simp] theorem place_zero (n lo : Nat) : place (0#n) lo = 0 := by
  simp [place]

theorem ofBool_bitAt (w : Word) (i : Nat) : BitVec.ofBool (bitAt w i) = field w i 1 := by
  refine BitVec.eq_of_getLsbD_eq fun j hj => ?_
  obtain rfl : j = 0 := by omega
  rw [getLsbD_field]
  simp [bitAt]

theorem placeBit_bitAt (w : Word) (i : Nat) : placeBit (bitAt w i) i = place (field w i 1) i := by
  rw [placeBit, ofBool_bitAt]

theorem place_opcode (op : Nat) : place (BitVec.ofNat 4 op) 12 = BitVec.ofNat 16 (op * 4096) := by
  refine BitVec.eq_of_toNat_eq ?_
  simp only [place, BitVec.toNat_shiftLeft, BitVec.toNat_setWidth, BitVec.toNat_ofNat, Nat.shiftLeft_eq]
  omega

/-- A word is its opcode and its low twelve bits. -/
theorem word_of_opcode {w : Word} {op : Nat} (hop : (field w 12 4).toNat = op) :
    BitVec.ofNat 16 (op * 4096) ||| place (field w 0 12) 0 = w := by
  rw [← place_opcode, ← hop, BitVec.ofNat_toNat, BitVec.setWidth_eq]
  exact (place_field_split w 0 12 4).symm.trans (place_field_whole w)

/-! What each format's decoder accepts is the encoding of what it gives (30_encoding.md R81). -/

section

variable {w : Word} {op nports : Nat} {i : Instr}

theorem encode_of_decodeZ {j : Instr} (hop : (field w 12 4).toNat = op) (hj : encode j = BitVec.ofNat 16 (op * 4096))
    (hwf : j.wf nports = true) (h : decodeZ w j = .ok i) : encode i = w ∧ i.wf nports = true := by
  have hw := word_of_opcode hop
  unfold decodeZ at h
  split at h
  · next hz =>
    cases h
    rw [hz] at hw
    exact ⟨by simpa [hj] using hw, hwf⟩
  · cases h

theorem encode_of_decodeV (hop : (field w 12 4).toNat = 2) (h : decodeV nports w = .ok i) :
    encode i = w ∧ i.wf nports = true := by
  have hw := word_of_opcode hop
  rw [place_field_split w 0 6 6, place_field_split w 0 4 2] at hw
  unfold decodeV at h
  split at h
  · cases h
  · next hz =>
    split at h
    · next hp =>
      cases h
      rw [not_not.mp hz] at hw
      exact ⟨by simpa [encode, BitVec.or_assoc] using hw, hp⟩
    · cases h

theorem encode_of_decodePM {mk : PortNo → Byte → Instr} (hop : (field w 12 4).toNat = op)
    (hmk : ∀ p m, encode (mk p m) = BitVec.ofNat 16 (op * 4096) ||| place p 8 ||| place m 0)
    (hwf : ∀ p m, (mk p m).wf nports = portExists nports p) (h : decodePM nports w mk = .ok i) :
    encode i = w ∧ i.wf nports = true := by
  have hw := word_of_opcode hop
  rw [place_field_split w 0 8 4] at hw
  unfold decodePM at h
  split at h
  · next hp =>
    cases h
    exact ⟨by simpa [hmk, BitVec.or_assoc] using hw, (hwf _ _).trans hp⟩
  · cases h

theorem encode_of_decodePC (hop : (field w 12 4).toNat = 7) (h : decodePC nports w = .ok i) :
    encode i = w ∧ i.wf nports = true := by
  have hw := word_of_opcode hop
  rw [place_field_split w 0 8 4, place_field_split w 0 5 3, place_field_split w 0 4 1,
    place_field_split w 0 3 1] at hw
  unfold decodePC at h
  split at h
  · cases h
  · next hz =>
    split at h
    · next hp =>
      cases h
      rw [not_not.mp hz] at hw
      exact ⟨by simpa [encode, placeBit_bitAt, BitVec.or_assoc] using hw, hp⟩
    · cases h

theorem unitBit_ite (b : Bool) : unitBit (if b then .ms else .us) = b := by
  cases b <;> rfl

theorem encode_of_decodeD (hop : (field w 12 4).toNat = 8) (h : decodeD w = .ok i) :
    encode i = w ∧ i.wf nports = true := by
  have hw := word_of_opcode hop
  rw [place_field_split w 0 11 1] at hw
  cases h
  exact ⟨by simpa [encode, unitBit_ite, placeBit_bitAt, BitVec.or_assoc] using hw, rfl⟩

theorem encode_of_decodeS (hop : (field w 12 4).toNat = 9) (h : decodeS w = .ok i) :
    encode i = w ∧ i.wf nports = true := by
  have hw := word_of_opcode hop
  rw [place_field_split w 0 11 1, place_field_split w 0 10 1, place_field_split w 0 9 1,
    place_field_split w 0 8 1] at hw
  unfold decodeS at h
  split at h
  · cases h
  · next hz =>
    cases h
    have hbit : field w 11 1 = 0 := by rw [← ofBool_bitAt, Bool.eq_false_iff.mpr hz]; rfl
    rw [hbit] at hw
    exact ⟨by simpa [encode, placeBit_bitAt, BitVec.or_assoc] using hw, rfl⟩

theorem encode_of_decodeL (hop : (field w 12 4).toNat = 12) (h : decodeL w = .ok i) :
    encode i = w ∧ i.wf nports = true := by
  have hw := word_of_opcode hop
  rw [place_field_split w 0 3 9] at hw
  unfold decodeL at h
  split at h
  · next hz =>
    cases h
    rw [hz] at hw
    exact ⟨by simpa [encode] using hw, rfl⟩
  · cases h

theorem encode_of_decodeF (hop : (field w 12 4).toNat = 13) (h : decodeF w = .ok i) :
    encode i = w ∧ i.wf nports = true := by
  have hw := word_of_opcode hop
  rw [place_field_split w 0 8 4, place_field_split w 0 4 4] at hw
  unfold decodeF at h
  split at h
  · next hc =>
    cases h
    exact ⟨by simpa [encode, BitVec.or_assoc] using hw, hc⟩
  · cases h

end

/-- Settles O2, format by format. -/
theorem encodeOfDecode : Obligations.EncodeOfDecode := by
  intro nports w i h
  have hlt : (field w 12 4).toNat < 16 := (field w 12 4).isLt
  unfold decode at h
  split at h
  case h_1 hop | h_2 hop | h_11 hop | h_12 hop | h_15 hop => exact encode_of_decodeZ hop rfl rfl h
  case h_3 hop => exact encode_of_decodeV hop h
  case h_4 hop | h_5 hop | h_6 hop | h_7 hop =>
    exact encode_of_decodePM hop (fun _ _ => rfl) (fun _ _ => rfl) h
  case h_8 hop => exact encode_of_decodePC hop h
  case h_9 hop => exact encode_of_decodeD hop h
  case h_10 hop => exact encode_of_decodeS hop h
  case h_13 hop => exact encode_of_decodeL hop h
  case h_14 hop => exact encode_of_decodeF hop h
  case h_16 =>
    have hop : (field w 12 4).toNat = 15 := by grind
    cases h
    exact ⟨by simpa [encode] using word_of_opcode hop, rfl⟩

/-- Settles O4, by running the decoder on the ten words. -/
theorem decodeSampleWords : Obligations.DecodeSampleWords := by
  unfold Obligations.DecodeSampleWords
  decide

end Sys2Proof.Proofs
end

section
/-! PROOFS. The ILLEGAL words are those the decoder gives no micro-op for, and each halts with itself. -/

namespace Sys2Proof.Proofs

open Sys2Proof.Machine Sys2Proof.Safety Sys2Proof.Laws

/-! Operands without a meaning (30_encoding.md R84, 60_exceptions.md R223). -/

/-- Operands the decoder rejects halt, whichever micro-op carries them. -/
theorem exec_of_not_wf {i : Instr} {s : State} (h : i.wf s.cfg.nports = false) :
    exec i s = .next (haltIllegal (encode i) s) := by
  cases i with
  | vpmap | dirset | dirclr | outset | outclr | pincfg | fail => exact legalOrHalt_illegal _ _ _ h
  | nop | dbgoff | delay | spicfg | rdphy | idlechk | linetest | heartbeat | reserved => cases h

/-- Settles O50: operands that are not well formed fail the decode check, and the reserved row's meaning is the halt. -/
theorem reservedAndIllFormedHalt : Obligations.ReservedAndIllFormedHalt := by
  rintro i s (h | ⟨x, rfl⟩)
  · rw [exec_of_not_wf h, haltIllegal_eq]
  · rfl

/-! What each format's decoder rejects (30_encoding.md R81, R84). -/

/-- What the decoder answers of a word without a micro-op: a reason, or the reserved row. -/
def NoMicroOp (r : Except IllegalReason Instr) : Prop := (∃ e, r = .error e) ∨ ∃ x, r = .ok (.reserved x)

@[simp] theorem noMicroOp_error (e : IllegalReason) : NoMicroOp (.error e) := .inl ⟨e, rfl⟩

@[simp] theorem noMicroOp_ok (i : Instr) : NoMicroOp (.ok i) ↔ ∃ x, i = .reserved x := by
  simp [NoMicroOp]

section

variable (w : Word) (nports : Nat)

theorem noMicroOp_decodeZ {i : Instr} (hi : ∀ x, i ≠ .reserved x) :
    NoMicroOp (decodeZ w i) ↔ field w 0 12 ≠ 0 := by
  unfold decodeZ
  split <;> simp_all

theorem noMicroOp_decodeV :
    NoMicroOp (decodeV nports w) ↔ field w 6 6 ≠ 0 ∨ portExists nports (field w 0 4) = false := by
  unfold decodeV
  split
  · simp_all
  · split <;> simp_all

theorem noMicroOp_decodePM {mk : PortNo → Byte → Instr} (hmk : ∀ p m x, mk p m ≠ .reserved x) :
    NoMicroOp (decodePM nports w mk) ↔ portExists nports (field w 8 4) = false := by
  unfold decodePM
  split <;> simp [*]

theorem noMicroOp_decodePC :
    NoMicroOp (decodePC nports w) ↔ field w 0 3 ≠ 0 ∨ portExists nports (field w 8 4) = false := by
  unfold decodePC
  split
  · simp_all
  · split <;> simp_all

theorem noMicroOp_decodeD : ¬ NoMicroOp (decodeD w) := by
  simp [decodeD]

theorem noMicroOp_decodeS : NoMicroOp (decodeS w) ↔ field w 11 1 ≠ 0 := by
  unfold decodeS
  rw [← ofBool_bitAt]
  split <;> simp_all

theorem noMicroOp_decodeL : NoMicroOp (decodeL w) ↔ field w 3 9 ≠ 0 := by
  unfold decodeL
  split <;> simp_all

theorem noMicroOp_decodeF : NoMicroOp (decodeF w) ↔
    (countLegal (field w 8 4) && countLegal (field w 4 4) && countLegal (field w 0 4)) = false := by
  unfold decodeF
  split <;> simp [*]

end

/-! The four conditions of 30_encoding.md R84 as conditions on the fields. -/

theorem opcodeOf_eq_field (w : Word) : opcodeOf w = (field w 12 4).toNat := by
  have := w.isLt
  rw [opcodeOf, toNat_field]
  omega

/-- A field put back in its place is the word masked to it. -/
theorem place_field_eq_and (w : Word) (lo n : Nat) : place (field w lo n) lo = w &&& place (BitVec.allOnes n) lo := by
  refine BitVec.eq_of_getLsbD_eq fun i hi => ?_
  simp only [BitVec.getLsbD_and, getLsbD_place, getLsbD_field, BitVec.getLsbD_allOnes]
  by_cases hlo : lo ≤ i
  · simp only [hi, hlo, Nat.add_sub_cancel' hlo, decide_true, Bool.true_and, Bool.and_comm]
  · simp [hlo]

theorem and_mask_eq_zero_iff (w : Word) {lo n : Nat} (h : lo + n ≤ 16) :
    w &&& place (BitVec.allOnes n) lo = 0 ↔ field w lo n = 0 := by
  rw [← place_field_eq_and]
  constructor
  · intro hz
    simpa [h] using congrArg (field · lo n) hz
  · intro hz
    rw [hz, BitVec.ofNat_eq_ofNat, place_zero]

theorem illegalPort_iff (w : Word) (nports : Nat) :
    (∃ p, portFieldOf w = some p ∧ nports ≤ p) ↔
      opcodeOf w = 2 ∧ portExists nports (field w 0 4) = false ∨
        (3 ≤ opcodeOf w ∧ opcodeOf w ≤ 7) ∧ portExists nports (field w 8 4) = false := by
  unfold portFieldOf
  split
  · simp [*, portExists, toNat_field]
  · split <;> simp [*, portExists, toNat_field]

theorem illegalCount_iff (l sc e : Count) :
    (countLegal l && countLegal sc && countLegal e) = false ↔ 9 < l.toNat ∨ 9 < sc.toNat ∨ 9 < e.toNat := by
  simp only [countLegal, Bool.and_eq_false_iff, decide_eq_false_iff_not, Nat.not_le, or_assoc]

/-- The four conditions as the fields of a word whose opcode keeps the `n` bits from `lo` up zero. -/
theorem illegalWord_iff {w : Word} {op lo n : Nat} (nports : Nat) (hop : (field w 12 4).toNat = op)
    (hm : mustBeZero op = place (BitVec.allOnes n) lo) (hle : lo + n ≤ 16) :
    IllegalWord nports w ↔ op = 15 ∨ field w lo n ≠ 0 ∨
      (op = 2 ∧ portExists nports (field w 0 4) = false ∨
        (3 ≤ op ∧ op ≤ 7) ∧ portExists nports (field w 8 4) = false) ∨
      op = 13 ∧ (countLegal (field w 8 4) && countLegal (field w 4 4) && countLegal (field w 0 4)) = false := by
  rw [← opcodeOf_eq_field] at hop
  rw [IllegalWord, illegalPort_iff, hop, hm, Ne, and_mask_eq_zero_iff w hle, illegalCount_iff]
  simp [toNat_field]

/-- The words without a micro-op are the ILLEGAL ones, opcode by opcode. -/
theorem noMicroOp_decode_iff (nports : Nat) (w : Word) : NoMicroOp (decode nports w) ↔ IllegalWord nports w := by
  have hlt : (field w 12 4).toNat < 16 := (field w 12 4).isLt
  unfold decode
  split
  case h_1 hop | h_2 hop | h_11 hop | h_12 hop | h_15 hop =>
    rw [noMicroOp_decodeZ w (by simp), illegalWord_iff nports hop (lo := 0) (n := 12) rfl (by decide)]
    simp
  case h_3 hop =>
    rw [noMicroOp_decodeV, illegalWord_iff nports hop (lo := 6) (n := 6) rfl (by decide)]
    simp
  case h_4 hop | h_5 hop | h_6 hop | h_7 hop =>
    rw [noMicroOp_decodePM _ _ (by simp), illegalWord_iff nports hop (lo := 0) (n := 0) rfl (by decide)]
    simp
  case h_8 hop =>
    rw [noMicroOp_decodePC, illegalWord_iff nports hop (lo := 0) (n := 3) rfl (by decide)]
    simp
  case h_9 hop =>
    rw [illegalWord_iff nports hop (lo := 0) (n := 0) rfl (by decide)]
    simp [noMicroOp_decodeD]
  case h_10 hop =>
    rw [noMicroOp_decodeS, illegalWord_iff nports hop (lo := 11) (n := 1) rfl (by decide)]
    simp
  case h_13 hop =>
    rw [noMicroOp_decodeL, illegalWord_iff nports hop (lo := 3) (n := 9) rfl (by decide)]
    simp
  case h_14 hop =>
    rw [noMicroOp_decodeF, illegalWord_iff nports hop (lo := 0) (n := 0) rfl (by decide)]
    simp
  case h_16 =>
    have hop : (field w 12 4).toNat = 15 := by grind
    rw [illegalWord_iff nports hop (lo := 0) (n := 0) rfl (by decide)]
    simp

/-- A fetched ILLEGAL word halts with itself, whether the decoder rejects it or gives the reserved row. -/
theorem runStep_illegalWord {s : State} {w : Word} (hw : s.seq[s.upc.toNat]? = some w)
    (hi : IllegalWord s.cfg.nports w) : runStep s = .next (haltIllegal w s) := by
  rcases (noMicroOp_decode_iff _ _).mpr hi with ⟨r, hd⟩ | ⟨x, hd⟩
  · exact runStep_rejected hw hd
  · rw [runStep_decoded hw hd, ← (encodeOfDecode _ _ _ hd).1]
    rfl

/-- Settles O3: the four conditions are the decoder's checks, and the fetched word is the one that halts. -/
theorem illegalWordsHalt : Obligations.IllegalWordsHalt := by
  refine ⟨noMicroOp_decode_iff, fun s w hb hm hr hw hi => ?_⟩
  rw [step_eq_modeStep hb hr, ← haltIllegal_eq]
  simp only [modeStep, hm, runStep_illegalWord hw hi]

end Sys2Proof.Proofs
end

section
/-! PROOFS. Board bring-up: which sequence ROMs are refused, when a step has no next state, and the micro-ops NOP, DBGOFF,
VPMAP and DELAY (40_board_init.md). -/

namespace Sys2Proof.Proofs

open Sys2Proof.Machine Sys2Proof.Safety Sys2Proof.Laws

/-! When a step has no next state (40_board_init.md R104, 10_state.md R24). -/

/-- A reset due at once gives a next state, whatever the step in progress; without one the step in progress decides. -/
theorem underReset_next_iff (s : State) (r : Result) :
    (∃ t, underReset s r = .next t) ↔ (∃ later, s.resetIn = 0 :: later) ∨ ∃ u, r = .next u := by
  unfold underReset
  split
  · next hr => simp [hr]
  · next hr => simp [hr]
  · next hr =>
    split
    · split <;> simp
    · simp [hr]
    · simp [hr]

/-- The reset input refuses nothing of its own. -/
theorem underReset_refused {s : State} {r : Result} {f : Refusal} (h : underReset s r = .refused f) :
    r = .refused f := by
  unfold underReset at h
  split at h
  · exact h
  · cases h
  · split at h
    · split at h <;> cases h
    · cases h
    · exact h

/-- The step MODE selects answers a next state, or it is a fetch in RUN above SEQ_LEN and faults. -/
theorem modeStep_next_or_fault (s : State) :
    ((s.mode = .run → s.upc.toNat ≤ s.seq.length) ∧ ∃ t, modeStep s = .next t) ∨
      (¬ (s.mode = .run → s.upc.toNat ≤ s.seq.length) ∧ modeStep s = .fault .noSuchSequenceWord) := by
  by_cases hu : s.mode = .run → s.upc.toNat ≤ s.seq.length
  · obtain ⟨t, ht, -⟩ := modeStep_performs s hu
    exact .inl ⟨hu, t, ht⟩
  · obtain ⟨hm, hlt⟩ := Classical.not_imp.mp hu
    exact .inr ⟨hu, by simp only [modeStep, hm, runStep_beyond (not_le.mp hlt)]⟩

theorem modeStep_next_iff (s : State) :
    (∃ t, modeStep s = .next t) ↔ (s.mode = .run → s.upc.toNat ≤ s.seq.length) := by
  rcases modeStep_next_or_fault s with ⟨hu, ht⟩ | ⟨hu, hf⟩
  · exact iff_of_true ht hu
  · exact iff_of_false (by simp [hf]) hu

theorem bootRefusal_of_not_sequenceOk {s : State} (h : sequenceOk s.seq = false) :
    bootRefusal s = some .sequenceNotWellFormed := by
  simp [bootRefusal, h]

/-- Nothing but the sequence ROM makes a step refused. -/
theorem step_refused_iff (s : State) : step s = .refused .sequenceNotWellFormed ↔ sequenceOk s.seq = false := by
  refine ⟨fun h => Bool.eq_false_iff.mpr fun hs => ?_, fun h => step_refused (bootRefusal_of_not_sequenceOk h)⟩
  rw [step_of_boot (bootRefusal_eq_none hs)] at h
  have hmode := underReset_refused h
  rcases modeStep_next_or_fault s with ⟨-, t, ht⟩ | ⟨-, hf⟩
  · simp [ht] at hmode
  · simp [hf] at hmode

/-- Settles O56: the boot check comes first, a reset due at once goes before the fetch, and only the fetch can fault. -/
theorem onlySequenceStopsStep : Obligations.OnlySequenceStopsStep := by
  refine fun s => ⟨?_, (step_refused_iff s).mpr⟩
  cases hs : sequenceOk s.seq with
  | false => simp [(step_refused_iff s).mpr hs]
  | true =>
    rw [step_of_boot (bootRefusal_eq_none hs), underReset_next_iff, modeStep_next_iff]
    tauto

/-! Where DBGOFF stands (40_board_init.md R104). -/

theorem mem_tail_iff_getElem? {α : Type} {x : α} {l : List α} : x ∈ l.tail ↔ ∃ j, 0 < j ∧ l[j]? = some x := by
  simp only [List.mem_iff_getElem?, List.getElem?_tail]
  exact ⟨fun ⟨i, hi⟩ => ⟨i + 1, i.succ_pos, hi⟩, fun ⟨j, hj, hx⟩ => ⟨j - 1, by rwa [Nat.sub_add_cancel hj]⟩⟩

/-- A sequence may run when it has 1 to 255 words and DBGOFF does not stand past index 0. -/
theorem sequenceOk_iff (seq : List Word) :
    sequenceOk seq = true ↔ 1 ≤ seq.length ∧ seq.length ≤ 255 ∧ encode .dbgoff ∉ seq.tail := by
  simp [sequenceOk, and_assoc]

/-- Among all micro-ops only DBGOFF has its word: the opcode tells. -/
theorem encode_eq_dbgoff {i : Instr} (h : encode i = encode .dbgoff) : i = .dbgoff := by
  have hop : field (encode i) 12 4 = 1 := by rw [h]; rfl
  cases i with
  | dbgoff => rfl
  | _ => simp [encode, placeBit] at hop

/-! The standard sequence (45_post_sequence.md R200 to R208). -/

theorem dbgoff_notMem_outLine (l : Line) (level : Bool) : .dbgoff ∉ outLine l level := by
  cases level <;> simp [outLine, levelOf]

/-- The standard sequence holds DBGOFF at its head alone: no other part writes it. -/
theorem dbgoff_notMem_standardProgram_tail (c : Config) : .dbgoff ∉ (standardProgram c).tail := by
  have hphy : .dbgoff ∉ phyControl c := by
    unfold phyControl
    split <;> simp [dbgoff_notMem_outLine]
  have heth : .dbgoff ∉ ethernetSetup c := by
    unfold ethernetSetup
    split <;> simp [dbgoff_notMem_outLine, delayInstr, levelOf]
  have hstorage : .dbgoff ∉ storageSetup c := by
    unfold storageSetup
    split <;> simp [dbgoff_notMem_outLine]
  simp [standardProgram, bringUp, observationSetup, phyData, selfTest, relall, hphy, heth, hstorage]

/-- The fixed parts of the standard sequence, one word for each pair of VPMAP_CFG, and the parts of the boards' flags. -/
theorem length_standardProgram (c : Config) :
    (standardProgram c).length =
      23 + c.vpmapCfg.length + (if c.clockedRead then 6 else 0) + (if c.hasEth then 13 else 0) +
        (if c.hasStorage then 6 else 0) := by
  have hphy : (phyControl c).length = if c.clockedRead then 6 else 0 := by
    unfold phyControl
    split <;> rfl
  have heth : (ethernetSetup c).length = if c.hasEth then 13 else 0 := by
    unfold ethernetSetup
    split <;> rfl
  have hstorage : (storageSetup c).length = if c.hasStorage then 6 else 0 := by
    unfold storageSetup
    split <;> rfl
  simp only [standardProgram, bringUp, observationSetup, phyData, selfTest, List.length_append, List.length_cons,
    List.length_map, List.length_nil, hphy, heth, hstorage]
  omega

theorem vpmapCfg_length_of_configOk {c : Config} (h : configOk c = true) : c.vpmapCfg.length ≤ 4 := by
  simp only [configOk, vpmapOk, Bool.and_eq_true, decide_eq_true_eq] at h
  obtain ⟨⟨-, ⟨hpairs, -⟩, -⟩, -⟩ := h
  exact hpairs

/-- At most four pairs of VPMAP_CFG and every flag set leave the standard sequence well inside the ROM. -/
theorem length_standardProgram_le {c : Config} (h : configOk c = true) : (standardProgram c).length ≤ 52 := by
  have hpairs := vpmapCfg_length_of_configOk h
  rw [length_standardProgram]
  split_ifs <;> omega

theorem standardSequence_ok {c : Config} (h : configOk c = true) : sequenceOk (standardSequence c) = true := by
  have hmin : 1 ≤ (standardProgram c).length := by rw [length_standardProgram]; omega
  have hmax := length_standardProgram_le h
  rw [sequenceOk_iff, standardSequence, List.length_map, ← List.map_tail]
  refine ⟨hmin, by omega, fun hmem => ?_⟩
  obtain ⟨i, hi, he⟩ := List.mem_map.mp hmem
  exact dbgoff_notMem_standardProgram_tail c (encode_eq_dbgoff he ▸ hi)

/-- Settles O11: with the length in range, refusal is DBGOFF in the tail; the standard sequence has it at the head alone. -/
theorem lateDbgoffRefused : Obligations.LateDbgoffRefused := by
  refine ⟨fun s h1 h255 => ?_, fun c hc => bootRefusal_eq_none (standardSequence_ok hc)⟩
  rw [step_refused_iff, ← Bool.not_eq_true, sequenceOk_iff]
  simp only [h1, h255, true_and, not_not]
  exact mem_tail_iff_getElem?

/-! The micro-ops (40_board_init.md R100 to R103). -/

theorem place_at_zero {n : Nat} (x : BitVec n) : place x 0 = x.setWidth 16 := by simp [place]

/-- Settles O26: a word of opcode 0x0 is its low twelve bits, which format Z wants zero. -/
theorem nopOnlyAdvances : Obligations.NopOnlyAdvances := by
  refine ⟨fun _ => rfl, fun nports x hx => ?_, fun _ => rfl⟩
  have hlow : x ≠ 0#12 := hx
  simp [← place_at_zero, decode, decodeZ, hlow]

/-- Settles O27; a later DBGOFF is in the tail of the sequence. -/
theorem dbgoffDisablesDebug : Obligations.DbgoffDisablesDebug := by
  refine ⟨fun _ => rfl, fun s => ?_, fun s j hj hw => ⟨_, (step_refused_iff s).mpr ?_⟩⟩
  · have htrace : (disableDebug s).trace = s.trace ++ [.keyW s.cfg.ccpKey, .dbgW] := by simp
    rw [← htrace]
    rfl
  · rw [← Bool.not_eq_true, sequenceOk_iff]
    exact fun ⟨_, _, hnone⟩ => hnone (mem_tail_iff_getElem?.mpr ⟨j, hj, hw⟩)

theorem setVPort_setVPort {α : Type} (v : Vector α 4) (k : VPortNo) (x y : α) :
    setVPort (setVPort v k x) k y = setVPort v k y := by simp [setVPort]

theorem exec_vpmap {s : State} (k : VPortNo) {p : PortNo} (hp : p.toNat < s.cfg.nports) :
    exec (.vpmap k p) s = .next (advance (writeVpmap k p s)) :=
  legalOrHalt_legal _ _ _ (by simpa [Instr.wf, portExists] using hp)

theorem encode_vpmap (k : VPortNo) (p : PortNo) :
    encode (.vpmap k p) = 0x2000#16 ||| (k.setWidth 16 <<< 4) ||| p.setWidth 16 := by
  rw [← place_at_zero p]
  rfl

/-- Settles O28: format V checks bits 11:6 first, then the port. -/
theorem vpmapMapsPort : Obligations.VpmapMapsPort := by
  intro s k p
  rw [← encode_vpmap]
  refine ⟨rfl, fun hp => ⟨decode_encode (by simpa [Instr.wf, portExists] using hp), exec_vpmap k hp, fun j => ?_,
    setVPort_setVPort s.vpmap k p⟩, fun hp => ?_, fun x hx => ?_⟩
  · rw [getVPort_setVPort]
    simp only [eq_comm]
  · simp [decode, encode, decodeV, portExists, hp]
  · have hword : 0x2000#16 ||| (x.setWidth 16 <<< 6) ||| (k.setWidth 16 <<< 4) ||| p.setWidth 16 =
        0x2000#16 ||| place x 6 ||| place k 4 ||| place p 0 := by rw [place_at_zero p]; rfl
    have hhigh : x ≠ 0#6 := hx
    simp [hword, decode, decodeV, hhigh]

/-- Settles O29: the word is the encoder's, and every DELAY word is legal. -/
theorem delayRecordsWait : Obligations.DelayRecordsWait := by
  intro s u n
  have hword : encode (.delay u n) = 0x8000#16 ||| ((if u = .us then 0#16 else 1#16) <<< 11) ||| n.setWidth 16 := by
    rw [← place_at_zero n]
    cases u <;> rfl
  exact ⟨hword ▸ decode_encode rfl, rfl⟩

end Sys2Proof.Proofs
end

section
/-! PROOFS. The pin-configuration micro-ops DIRSET, DIRCLR, OUTSET, OUTCLR, PINCFG and SPICFG (41_pin_config.md). -/

namespace Sys2Proof.Proofs

open Sys2Proof.Machine Sys2Proof.Safety Sys2Proof.Laws

/-! The port operand of a micro-op (30_encoding.md R84, condition 3). -/

theorem portExists_of_lt {nports : Nat} {p : PortNo} (hp : p.toNat < nports) : portExists nports p = true :=
  decide_eq_true hp

theorem portExists_of_le {nports : Nat} {p : PortNo} (hp : nports ≤ p.toNat) : portExists nports p = false :=
  decide_eq_false hp.not_gt

/-- Apart from FAIL, whose counts are checked instead, an ill-formed micro-op is one whose port does not exist. -/
theorem decode_encode_noSuchPort {nports : Nat} {i : Instr} (h : i.wf nports = false)
    (hfail : ∀ l sc e, i ≠ .fail l sc e) : decode nports (encode i) = .error .noSuchPort := by
  cases i with
  | nop | dbgoff | delay | spicfg | rdphy | idlechk | linetest | heartbeat | reserved => cases h
  | fail l sc e => exact absurd rfl (hfail l sc e)
  | vpmap k p =>
    have hp : portExists nports p = false := h
    simp [decode, encode, decodeV, hp]
  | dirset p m | dirclr p m | outset p m | outclr p m =>
    have hp : portExists nports p = false := h
    simp [decode, encode, decodePM, hp]
  | pincfg p pin a v =>
    have hp : portExists nports p = false := h
    simp [decode, encode, decodePC, placeBit, hp]

/-! The words of formats PM, PC and S (30_encoding.md R81). -/

section
variable (p : PortNo) (m : Byte)

theorem encode_dirset : encode (.dirset p m) = 0x3000#16 ||| (p.setWidth 16 <<< 8) ||| m.setWidth 16 := by
  rw [← place_at_zero m]
  rfl

theorem encode_dirclr : encode (.dirclr p m) = 0x4000#16 ||| (p.setWidth 16 <<< 8) ||| m.setWidth 16 := by
  rw [← place_at_zero m]
  rfl

theorem encode_outset : encode (.outset p m) = 0x5000#16 ||| (p.setWidth 16 <<< 8) ||| m.setWidth 16 := by
  rw [← place_at_zero m]
  rfl

theorem encode_outclr : encode (.outclr p m) = 0x6000#16 ||| (p.setWidth 16 <<< 8) ||| m.setWidth 16 := by
  rw [← place_at_zero m]
  rfl

end

theorem encode_spicfg (b : Byte) (c t r : Bool) :
    encode (.spicfg b c t r) = 0x9000#16 ||| ((BitVec.ofBool r).setWidth 16 <<< 10) |||
      ((BitVec.ofBool t).setWidth 16 <<< 9) ||| ((BitVec.ofBool c).setWidth 16 <<< 8) ||| b.setWidth 16 := by
  rw [← place_at_zero b]
  rfl

/-- Format PC checks its low three bits before the port. -/
theorem decode_pincfg_mustBeZero (nports : Nat) (p : PortNo) (pin : PinNo) (a v : Bool) {x : BitVec 3} (hx : x ≠ 0) :
    decode nports (encode (.pincfg p pin a v) ||| x.setWidth 16) = .error .mustBeZero := by
  have hlow : x ≠ 0#3 := hx
  rw [← place_at_zero x]
  simp [decode, encode, decodePC, placeBit, hlow]

/-- Format S checks bit 11 alone. -/
theorem decode_spicfg_mustBeZero (nports : Nat) (b : Byte) (c t r : Bool) :
    decode nports (encode (.spicfg b c t r) ||| 0x0800) = .error .mustBeZero := by
  simp [decode, encode, decodeS, placeBit]

/-! What each micro-op does on a port that exists. -/

section
variable {s : State} {p : PortNo} (hp : p.toNat < s.cfg.nports)
include hp

theorem exec_dirset (m : Byte) : exec (.dirset p m) s = .next (advance (setDirBits p m s)) :=
  legalOrHalt_legal _ _ _ (portExists_of_lt hp)

theorem exec_dirclr (m : Byte) : exec (.dirclr p m) s = .next (advance (clearDirBits p m s)) :=
  legalOrHalt_legal _ _ _ (portExists_of_lt hp)

theorem exec_outset (m : Byte) : exec (.outset p m) s = .next (advance (setOutBits p m s)) :=
  legalOrHalt_legal _ _ _ (portExists_of_lt hp)

theorem exec_outclr (m : Byte) : exec (.outclr p m) s = .next (advance (clearOutBits p m s)) :=
  legalOrHalt_legal _ _ _ (portExists_of_lt hp)

theorem exec_pincfg (pin : PinNo) (a v : Bool) :
    exec (.pincfg p pin a v) s = .next (advance (writePinCtrl p pin a v s)) :=
  legalOrHalt_legal _ _ _ (portExists_of_lt hp)

end

/-! The registers they leave, as the pins and the indicator show them (10_state.md R28, R29, R34). -/

/-- A pin whose DIR bit is 0 drives nothing. -/
theorem driven_released {s : State} {p : PortNo} {i : PinNo} (hd : (getPort s.dir p).getLsbD i.toNat = false) :
    driven s p i = none := by simp [driven, hd]

/-- A pin whose DIR bit is 1 and INVEN bit is 0 drives its OUT level. -/
theorem driven_output {s : State} {p : PortNo} {i : PinNo} (hd : (getPort s.dir p).getLsbD i.toNat = true)
    (hv : (getPin (getPort s.pinctrl p) i).inven = false) :
    driven s p i = some ((getPort s.out p).getLsbD i.toNat) := by simp [driven, hd, hv]

theorem getLsbD_setDirBits {p : PortNo} {m : Byte} {s : State} {i : PinNo} (hm : m.getLsbD i.toNat = true) :
    (getPort (setDirBits p m s).dir p).getLsbD i.toNat = true := by
  simp [-BitVec.getLsbD_eq_getElem, setDirBits_eq, hm]

theorem getLsbD_clearDirBits {p : PortNo} {m : Byte} {s : State} {i : PinNo} (hm : m.getLsbD i.toNat = true) :
    (getPort (clearDirBits p m s).dir p).getLsbD i.toNat = false := by
  simp [-BitVec.getLsbD_eq_getElem, clearDirBits_eq, hm]

/-- Clearing OUT bits, of any port, raises none. -/
theorem getLsbD_clearOutBits_of_clear (p : PortNo) (m : Byte) {q : PortNo} {s : State} {i : PinNo}
    (ho : (getPort s.out q).getLsbD i.toNat = false) :
    (getPort (clearOutBits p m s).out q).getLsbD i.toNat = false := by
  rw [clearOutBits_eq, getPort_setPort]
  split
  · next hpq =>
    subst hpq
    rw [BitVec.getLsbD_and, ho, Bool.false_and]
  · exact ho

/-- PINCFG writes one pin's control and keeps every other pin's (41_pin_config.md R128). -/
theorem getPin_writePinCtrl (p : PortNo) (pin : PinNo) (a v : Bool) (s : State) (q : PortNo) (j : PinNo) :
    getPin (getPort (writePinCtrl p pin a v s).pinctrl q) j =
      if p = q ∧ pin = j then ⟨a, v⟩ else getPin (getPort s.pinctrl q) j := by
  rw [writePinCtrl_pinctrl, getPort_setPort]
  by_cases hpq : p = q
  · subst hpq
    simp [getPin_setPin]
  · simp [hpq]

/-! The statements. -/

/-- Settles O30: the mask's DIR bits are 1 after the write, and such a pin drives its OUT level. -/
theorem dirsetMakesOutputs : Obligations.DirsetMakesOutputs := by
  intro s p m
  rw [← encode_dirset]
  refine ⟨fun hp => ⟨decode_encode (portExists_of_lt hp), exec_dirset hp m, fun t i h hm hv => ?_⟩,
    fun hp => decode_encode_noSuchPort (portExists_of_le hp) nofun⟩
  obtain rfl : advance (setDirBits p m s) = t := Host.Outcome.next.inj ((exec_dirset hp m).symm.trans h)
  exact driven_output (getLsbD_setDirBits hm) hv

/-- Settles O31: the mask's DIR bits are 0 after the write, and such a pin drives nothing. -/
theorem dirclrReleasesLines : Obligations.DirclrReleasesLines := by
  intro s p m
  rw [← encode_dirclr]
  refine ⟨fun hp => ⟨decode_encode (portExists_of_lt hp), exec_dirclr hp m, fun t i h hm => ?_⟩,
    fun hp => decode_encode_noSuchPort (portExists_of_le hp) nofun⟩
  obtain rfl : advance (clearDirBits p m s) = t := Host.Outcome.next.inj ((exec_dirclr hp m).symm.trans h)
  exact driven_released (getLsbD_clearDirBits hm)

/-- Settles O32: the write leaves DIR alone, so a released pin stays released. -/
theorem outsetRaisesLevels : Obligations.OutsetRaisesLevels := by
  intro s p m
  rw [← encode_outset]
  refine ⟨fun hp => ⟨decode_encode (portExists_of_lt hp), exec_outset hp m, fun t i h hd => ?_⟩,
    fun hp => decode_encode_noSuchPort (portExists_of_le hp) nofun⟩
  obtain rfl : advance (setOutBits p m s) = t := Host.Outcome.next.inj ((exec_outset hp m).symm.trans h)
  exact driven_released hd

/-- Settles O33: the write leaves DIR alone and raises no OUT bit, so the indicator stays dark or stays lit. -/
theorem outclrLowersLevels : Obligations.OutclrLowersLevels := by
  intro s p m
  rw [← encode_outclr]
  refine ⟨fun hp => ⟨decode_encode (portExists_of_lt hp), exec_outclr hp m, fun t h => ?_⟩,
    fun hp => decode_encode_noSuchPort (portExists_of_le hp) nofun⟩
  obtain rfl : advance (clearOutBits p m s) = t := Host.Outcome.next.inj ((exec_outclr hp m).symm.trans h)
  exact ⟨fun hd => ⟨ledLit_dark hd, ledLit_dark hd⟩,
    fun hd ho => ⟨ledLit_lit hd ho, ledLit_lit hd (getLsbD_clearOutBits_of_clear p m ho)⟩⟩

/-- Settles O34: the write changes one pin's control, and a read is inverted by the INVEN bit standing there. -/
theorem pincfgWritesPinControl : Obligations.PincfgWritesPinControl := by
  rintro s p pin a v x w hw
  obtain rfl : w = encode (.pincfg p pin a v) := hw
  have hctrl : getPin (getPort (advance (writePinCtrl p pin a v s)).pinctrl p) pin = ⟨a, v⟩ := by
    simp [-writePinCtrl_pinctrl, getPin_writePinCtrl]
  refine ⟨fun hp => ⟨decode_encode (portExists_of_lt hp), _, exec_pincfg hp pin a v, rfl, hctrl, fun q j hne => ?_,
    fun u hu => ?_⟩, fun hp => decode_encode_noSuchPort (portExists_of_le hp) nofun,
    decode_pincfg_mustBeZero s.cfg.nports p pin a v⟩
  · rw [advance_pinctrl, getPin_writePinCtrl, if_neg]
    rintro ⟨rfl, rfl⟩
    simp at hne
  · rw [readSamplesPins.1, hu, hctrl]

/-- Settles O35: the word is the encoder's, and the meaning reads no flag of the board. -/
theorem spicfgWritesUnit : Obligations.SpicfgWritesUnit := by
  rintro s b c t r w hw
  rw [← encode_spicfg] at hw
  subst hw
  exact ⟨decode_encode rfl, decode_spicfg_mustBeZero s.cfg.nports b c t r, rfl⟩

end Sys2Proof.Proofs
end

section
/-! PROOFS. The read primitive and RDPHY, the bit-reversal ROM and the lowest-set-bit encoder (42_read_primitive.md). -/

namespace Sys2Proof.Proofs

open Sys2Proof.Machine Sys2Proof.Safety Sys2Proof.Laws

/-! The level of a single line in OUT (10_state.md R29): what a write of one line does to every line. -/

/-- The OUT level of a single line. -/
def lineLevel (out : Vector Byte 16) (l : Line) : Bool := (getPort out l.port).getLsbD l.pin.toNat

/-- OUT is its lines' levels. -/
theorem out_ext_of_lineLevel {v w : Vector Byte 16} (h : ∀ l, lineLevel v l = lineLevel w l) : v = w := by
  refine Vector.ext fun p hp => BitVec.eq_of_getLsbD_eq fun i hi => ?_
  simpa [lineLevel, getPort, Nat.mod_eq_of_lt hp, Nat.mod_eq_of_lt hi] using h ⟨BitVec.ofNat 4 p, BitVec.ofNat 3 i⟩

theorem line_eq_iff {l m : Line} : m = l ↔ l.port = m.port ∧ m.pin = l.pin := by
  rw [Line.mk.injEq]
  simp [eq_comm]

/-- A line raised reads 1, and every other line keeps its level. -/
theorem lineLevel_setOutBits (l m : Line) (s : State) :
    lineLevel (setOutBits l.port (lineMaskOf l) s).out m = (decide (m = l) || lineLevel s.out m) := by
  rw [setOutBits_eq, lineLevel, lineLevel, getPort_setPort]
  split
  · next hp => simp only [BitVec.getLsbD_or, getLsbD_lineMaskOf, line_eq_iff, hp, true_and, Bool.or_comm]
  · next hp => simp [line_eq_iff, hp]

/-- A line lowered reads 0, and every other line keeps its level. -/
theorem lineLevel_clearOutBits (l m : Line) (s : State) :
    lineLevel (clearOutBits l.port (lineMaskOf l) s).out m = (!decide (m = l) && lineLevel s.out m) := by
  rw [clearOutBits_eq, lineLevel, lineLevel, getPort_setPort]
  split
  · next hp =>
    have hpin : m.pin.toNat < 8 := m.pin.isLt
    simp only [BitVec.getLsbD_and, BitVec.getLsbD_not, getLsbD_lineMaskOf, line_eq_iff, hp, hpin, decide_true, true_and,
      Bool.true_and, Bool.and_comm]
  · next hp => simp [line_eq_iff, hp]

/-! ReadPHY on each kind of board (42_read_primitive.md R140). -/

theorem readPhy_state_of_unclocked {s : State} (hc : s.cfg.clockedRead = false) :
    (readPhy s).2 = sample s.cfg.pPhyd s := by
  simp [readPhy, phyEnable, phyDisable, hc]

theorem readPhy_state_of_clocked {s : State} (hc : s.cfg.clockedRead = true) :
    (readPhy s).2 =
      setOutBits s.cfg.phyOe.port (lineMaskOf s.cfg.phyOe)
        (sample s.cfg.pPhyd
          (clearOutBits s.cfg.phyClk.port (lineMaskOf s.cfg.phyClk)
            (clearOutBits s.cfg.phyOe.port (lineMaskOf s.cfg.phyOe)
              (setOutBits s.cfg.phyClk.port (lineMaskOf s.cfg.phyClk) s)))) := by
  simp [readPhy, phyEnable, phyDisable, hc, setOutBits_eq, clearOutBits_eq]

/-- Settles O39: the enable ends high and the clock low, as they idle, and no other line is written. The idle levels
differ, so they already keep the two lines apart. -/
theorem readPrimitiveKeepsIdleLevels : Obligations.ReadPrimitiveKeepsIdleLevels := by
  intro s _ hidle
  cases hc : s.cfg.clockedRead with
  | false => rw [readPhy_state_of_unclocked hc, sample_out]
  | true =>
    obtain ⟨hclk, hoe⟩ : lineLevel s.out s.cfg.phyClk = false ∧ lineLevel s.out s.cfg.phyOe = true := hidle hc
    refine out_ext_of_lineLevel fun l => ?_
    rw [readPhy_state_of_clocked hc, lineLevel_setOutBits, sample_out, lineLevel_clearOutBits, lineLevel_clearOutBits,
      lineLevel_setOutBits]
    by_cases hlo : l = s.cfg.phyOe
    · simp [hlo, hoe]
    · by_cases hlc : l = s.cfg.phyClk
      · subst hlc
        simp [hlo, hclk]
      · simp [hlo, hlc]

/-- Settles O38: each write of OUT records the port's value after it, and the sample comes before the last. -/
theorem readPrimitiveEvents : Obligations.ReadPrimitiveEvents := by
  rintro s clk oe rfl rfl v rfl
  refine ⟨readPhy_value s, readPhy_state_of_unclocked, ?_⟩
  rintro hc o1 o2 o3 o4 rfl rfl rfl rfl
  simp only [readPhy_state_of_clocked hc, setOutBits_eq, clearOutBits_eq, readSamplesPins.2.1, getPort_setPort_self,
    List.append_assoc, List.cons_append, List.nil_append]
  rfl

/-- Settles O40: ReadPHY moves neither UPC nor the pins its value is read from. -/
theorem rdphyKeepsValue : Obligations.RdphyKeepsValue := by
  refine ⟨fun _ => rfl, fun nports x hx => ?_, fun s => ?_⟩
  · have hlow : x ≠ 0#12 := hx
    simp [← place_at_zero, decode, decodeZ, hlow]
  · have hupc : (readPhy s).2.upc = s.upc := by rw [readPhy_state_eq]
    calc exec .rdphy s
        = .next { (readPhy s).2 with phyv := some (readPhy s).1, upc := (readPhy s).2.upc + 1 } := rfl
      _ = _ := by rw [readPhy_value, hupc]; rfl

/-! The bit-reversal ROM (42_read_primitive.md R143 to R145). -/

/-- The table of R144 entry by entry: each of the 256 is its address in reverse. -/
theorem rev_eq_reverse : ∀ a : Byte, rev a = a.reverse := by decide

theorem rev_involutive : Function.Involutive rev := fun a => by
  rw [rev_eq_reverse, rev_eq_reverse, BitVec.reverse_reverse_eq]

/-- Settles O41: every entry of the table is its address in reverse. -/
theorem romReversesBits : Obligations.RomReversesBits := by
  refine ⟨fun a i => ?_, rev_involutive, rev_involutive.bijective, ?_⟩
  · have hindex : 8 - 1 - (7 - i.val) = i.val := by omega
    rw [rev_eq_reverse, BitVec.getLsbD_reverse, BitVec.getMsbD_eq_getLsbD, hindex]
    simp [show 7 - i.val < 8 by omega]
  · simp only [rev_eq_reverse]
    decide

/-! The lowest-set-bit encoder (42_read_primitive.md R147). -/

/-- With bit i the first that is 1, the encoder's tests fall through to the one of bit i. -/
theorem lsbenc_toNat_of_lowest {v : Byte} {i : Nat} (hi : i < 8) (hv : v.getLsbD i = true)
    (hlow : ∀ j < i, v.getLsbD j = false) : (lsbenc v).toNat = i + 1 := by
  interval_cases i <;> simp [-BitVec.getLsbD_eq_getElem, lsbenc, hv, hlow]

theorem one_le_lsbenc (v : Byte) : 1 ≤ (lsbenc v).toNat := by
  unfold lsbenc
  split_ifs <;> decide

/-- Settles O42: no bit of 0 is 1, so every test falls through to 9. -/
theorem lsbencFindsLowestBit : Obligations.LsbencFindsLowestBit :=
  ⟨rfl, fun _ i hv hlow => lsbenc_toNat_of_lowest i.isLt hv fun j hj => hlow ⟨j, hj.trans i.isLt⟩ hj,
    fun v => ⟨one_le_lsbenc v, lsbenc_le v⟩⟩

end Sys2Proof.Proofs
end

section
/-! PROOFS. The self-test micro-ops IDLECHK and LINETEST (43_self_test.md). -/

namespace Sys2Proof.Proofs

open Sys2Proof.Machine Sys2Proof.Safety Sys2Proof.Laws

/-! What each comparison decides (43_self_test.md R160, R163). -/

@[simp] theorem observe_obsv (s : State) : (observe s).obsv = some (sampled s.cfg.pObs s) := rfl

@[simp] theorem readBus_phyv (s : State) : (readBus s).phyv = some (readPhy s).1 := rfl

/-- Driving the line moves no draw and no pin control. -/
@[simp] theorem sampled_driveLine (p : PortNo) (n : BitVec 3) (s : State) : sampled p (driveLine n s) = sampled p s :=
  rfl

section
variable {s : State} {n : BitVec 3}

theorem exec_idlechk_pass (hv : sampled s.cfg.pObs s = 0) : exec .idlechk s = .next (advance (observe s)) := by
  simp [exec, execIdlechk, idleViolation, hv]

theorem exec_idlechk_fail (hv : sampled s.cfg.pObs s ≠ 0) :
    exec .idlechk s = .next (raiseFail 1 (lsbenc (sampled s.cfg.pObs s)) 0 (observe s)) :=
  if_pos (bne_iff_ne.mpr hv)

theorem exec_linetest_outputShort (hv : sampled s.cfg.pObs s ≠ lineMask n) :
    exec (.linetest n) s = .next (raiseShort 2 n (sampled s.cfg.pObs s) (observe (driveLine n s))) :=
  if_pos (bne_iff_ne.mpr hv)

/-- A read-back equal to the mask leaves the answer to the input bus. -/
theorem exec_linetest_checkBus (ho : sampled s.cfg.pObs s = lineMask n) :
    exec (.linetest n) s = checkBus n (observe (driveLine n s)) :=
  if_neg (by simpa [readbackMismatch] using ho)

theorem checkBus_inputShort (hv : (readPhy s).1 ≠ lineMask n) :
    checkBus n s = .next (raiseShort 3 n (readPhy s).1 (readBus s)) :=
  if_pos (bne_iff_ne.mpr hv)

theorem checkBus_pass (hv : (readPhy s).1 = lineMask n) :
    checkBus n s = .next (advance (clearDirBits s.cfg.pObs (lineMask n) (readBus s))) :=
  if_neg (by simpa [readbackMismatch] using hv)

end

/-! The failure code's parts (42_read_primitive.md R147, 43_self_test.md R162). -/

theorem lineNumber_eq_ofNat : ∀ n : BitVec 3, lineNumber n = BitVec.ofNat 4 (n.toNat + 1) := by decide

theorem lsbenc_eq_of_lowest {v : Byte} {b : Fin 8} (hv : v.getLsbD b.val = true)
    (hlow : ∀ j : Fin 8, j < b → v.getLsbD j.val = false) : lsbenc v = BitVec.ofNat 4 (b.val + 1) := by
  rw [← lsbencFindsLowestBit.2.1 v b hv hlow, BitVec.ofNat_toNat, BitVec.setWidth_eq]

/-- Only 0 is encoded as the sentinel 9. -/
theorem lsbenc_le_eight_of_ne_zero : ∀ v : Byte, v ≠ 0 → (lsbenc v).toNat ≤ 8 := by decide

/-! The line driven and read back (43_self_test.md R163). -/

/-- The read of the observation port comes after the drive and the settling wait. -/
theorem observe_driveLine_eq (n : BitVec 3) (s : State) :
    observe (driveLine n s) =
      { s with
        line := some (BitVec.ofNat 4 (n.toNat + 1))
        mask := some (lineMask n)
        dir := setPort s.dir s.cfg.pObs (getPort s.dir s.cfg.pObs ||| lineMask n)
        env := s.env.tail
        draws := s.draws + 1
        trace := s.trace ++ [.dirW s.cfg.pObs (getPort s.dir s.cfg.pObs ||| lineMask n), .wait (.span s.cfg.tSettle),
          .inR s.cfg.pObs (pinsNow s.cfg.pObs s) (sampled s.cfg.pObs s)]
        obsv := some (sampled s.cfg.pObs s) } := by
  rw [observe_eq, driveLine_eq, lineNumber_eq_ofNat]
  simp only [List.append_assoc]
  rfl

/-- The driven line reads 1 in DIR of the observation port. -/
theorem getLsbD_driveLine_dir (n : BitVec 3) (s : State) :
    (getPort (driveLine n s).dir s.cfg.pObs).getLsbD n.toNat = true :=
  getLsbD_setDirBits (s := s) (by rw [lineMask, getLsbD_bit, decide_eq_true rfl])

/-! The statements. -/

/-- Settles O43: the byte read back is 0, or the first of its bits that is 1 is what lsbenc encodes. -/
theorem idlechkReportsLowestLine : Obligations.IdlechkReportsLowestLine := by
  refine ⟨fun _ => rfl, fun nports x hx => ?_, ?_⟩
  · have hlow : x ≠ 0#12 := hx
    simp [← place_at_zero, decode, decodeZ, hlow]
  rintro s v hv
  obtain rfl : v = sampled s.cfg.pObs s := hv
  refine ⟨fun hzero => ?_, fun b hb hlow => ?_⟩
  · rw [exec_idlechk_pass hzero, observe_eq, hzero]
    rfl
  · have hne : sampled s.cfg.pObs s ≠ 0 := by
      intro hzero
      simp [hzero] at hb
    rw [exec_idlechk_fail hne, lsbenc_eq_of_lowest hb hlow]
    rfl

/-- Settles O44: the answer is the short of family 2 raised after the observation read. -/
theorem linetestOutputShort : Obligations.LinetestOutputShort := by
  rintro s n m d v rfl rfl rfl hne
  rw [exec_linetest_outputShort hne, observe_driveLine_eq, raiseShort_eq, lineNumber_eq_ofNat]
  rfl

/-- Settles O45: the state the input bus is read in is the one after the observation read. -/
theorem linetestInputCheck : Obligations.LinetestInputCheck := by
  rintro s u n m d rfl rfl ho hu
  have ho : sampled s.cfg.pObs s = lineMask n := ho
  obtain rfl : u = observe (driveLine n s) := by
    rw [hu, observe_driveLine_eq, ho]
    rfl
  rw [exec_linetest_checkBus ho]
  refine ⟨fun hne => ?_, fun heq => ?_⟩
  · rw [checkBus_inputShort hne, raiseShort_eq, lineNumber_eq_ofNat]
    rfl
  · have hdir : (readBus (observe (driveLine n s))).dir =
        setPort s.dir s.cfg.pObs (getPort s.dir s.cfg.pObs ||| lineMask n) := readBus_dir _
    have hupc : (readBus (observe (driveLine n s))).upc = s.upc := readBus_upc _
    rw [checkBus_pass heq, clearDirBits_eq, advance, hdir, hupc, observe_cfg, driveLine_cfg, getPort_setPort_self,
      readBus, heq]
    rfl

/-! What a short reports and leaves alone (43_self_test.md R162, R166). -/

section
variable (f : Count) (n : BitVec 3) (v : Byte) (s : State)

@[simp] theorem raiseShort_mode : (raiseShort f n v s).mode = .blink := rfl
@[simp] theorem raiseShort_upc : (raiseShort f n v s).upc = s.upc := rfl
@[simp] theorem raiseShort_dir : (raiseShort f n v s).dir = s.dir := rfl

end

/-- A byte that differs from the mask leaves a residual, so the extra count names a line. -/
theorem raiseShort_code_resid {v : Byte} {n : BitVec 3} (f : Count) (s : State) (hv : v ≠ lineMask n) :
    ∃ (e : Count) (r : Byte), (raiseShort f n v s).code = some ⟨f, BitVec.ofNat 4 (n.toNat + 1), e⟩ ∧
      1 ≤ e.toNat ∧ e.toNat ≤ 8 ∧ (raiseShort f n v s).resid = some r ∧ r ≠ 0 ∧ e = lsbenc r := by
  have hr : v ^^^ lineMask n ≠ 0 := by simpa using hv
  rw [raiseShort_eq, lineNumber_eq_ofNat]
  exact ⟨_, _, rfl, one_le_lsbenc _, lsbenc_le_eight_of_ne_zero _ hr, rfl, hr, rfl⟩

/-- Settles O46: of the outcomes of LINETEST only the two shorts leave RUN, and neither writes UPC or DIR. -/
theorem linetestFailureCodes : Obligations.LinetestFailureCodes := by
  intro s t n hm h ht
  cases performs_of_exec h with
  | outputShort hv =>
    obtain ⟨e, r, hcode, hlo, hhi, hresid, hr, he⟩ := raiseShort_code_resid 2 (observe (driveLine n s)) hv
    refine ⟨raiseShort_mode .., ?_, ?_, 2, e, r, hcode, .inl rfl, hlo, hhi, hresid, hr, he⟩
    · rw [raiseShort_upc, observe_upc, driveLine_upc]
    · rw [raiseShort_dir, observe_dir, getLsbD_driveLine_dir]
  | inputShort _ hv =>
    obtain ⟨e, r, hcode, hlo, hhi, hresid, hr, he⟩ := raiseShort_code_resid 3 (readBus (observe (driveLine n s))) hv
    refine ⟨raiseShort_mode .., ?_, ?_, 3, e, r, hcode, .inr rfl, hlo, hhi, hresid, hr, he⟩
    · rw [raiseShort_upc, readBus_upc, observe_upc, driveLine_upc]
    · rw [raiseShort_dir, readBus_dir, observe_dir, getLsbD_driveLine_dir]
  | linetestPass => exact absurd (by simpa [clearDirBits] using hm) ht
  | illegal hi =>
    obtain hi | ⟨x, hx⟩ := hi
    · cases hi
    · cases hx

/-! The ideal board (92_eei_decisions.md D38). -/

/-- The observation port is neither the input bus nor the port of a used line (00_scope.md R7). -/
theorem pObs_apart_of_configOk {c : Config} (h : configOk c = true) :
    c.pPhyd ≠ c.pObs ∧ ∀ l ∈ usedLines c, l.port ≠ c.pObs := by
  simp only [configOk, portsOk, Bool.and_eq_true, List.all_eq_true, bne_iff_ne] at h
  obtain ⟨⟨⟨⟨⟨-, hbus⟩, hlines⟩, -⟩, -⟩, -⟩ := h
  refine ⟨hbus.symm, fun l hl => ?_⟩
  have hok := hlines l hl
  simp only [lineOk, Bool.and_eq_true, bne_iff_ne] at hok
  exact hok.1.2

/-- The clock edges of ReadPHY leave the observation port's levels alone. -/
theorem getPort_phyEnable_out {s : State} (h : configOk s.cfg = true) :
    getPort (phyEnable s).out s.cfg.pObs = getPort s.out s.cfg.pObs := by
  cases hc : s.cfg.clockedRead with
  | false => simp [phyEnable, hc]
  | true =>
    have hclk : s.cfg.phyClk.port ≠ s.cfg.pObs := (pObs_apart_of_configOk h).2 _ (by simp [usedLines, hc])
    have hoe : s.cfg.phyOe.port ≠ s.cfg.pObs := (pObs_apart_of_configOk h).2 _ (by simp [usedLines, hc])
    simp [phyEnable, hc, setOutBits_eq, clearOutBits_eq, getPort_setPort, hclk, hoe]

theorem invMask_eq_zero {pc : Vector PinCtrl 8} (h : ∀ i, (getPin pc i).inven = false) : invMask pc = 0 := by
  simp [invMask, h]

/-- The bit order of the board is undone by the reordering that follows the sample. -/
theorem reorder_reorder (c : Config) (v : Byte) : reorder c (reorder c v) = v := by
  unfold reorder
  split
  · exact rev_involutive v
  · rfl

/-- The input bus of the ideal board is read as the lines driven on the observation port. -/
theorem readPhy_value_of_idealPins {s : State} {b : Byte} {rest : List Byte} (h : configOk s.cfg = true)
    (henv : s.env = b :: rest) (hb : b = idealPins (phyEnable s) s.cfg.pPhyd) :
    (readPhy s).1 = getPort s.dir s.cfg.pObs &&& getPort s.out s.cfg.pObs := by
  have hcfg : (phyEnable s).cfg = s.cfg := by rw [phyEnable_eq]
  have hdir : (phyEnable s).dir = s.dir := by rw [phyEnable_eq]
  have hctrl : (phyEnable s).pinctrl = s.pinctrl := by rw [phyEnable_eq]
  have hlevels : b = reorder s.cfg (getPort s.dir s.cfg.pObs &&& getPort s.out s.cfg.pObs) ^^^
      invMask (getPort s.pinctrl s.cfg.pPhyd) := by
    rw [hb, idealPins, hcfg, hdir, hctrl, getPort_phyEnable_out h, if_neg (pObs_apart_of_configOk h).1, if_pos rfl]
  rw [readPhy_value, sampled, pinsNow_cons _ _ _ _ henv, hlevels, BitVec.xor_assoc, BitVec.xor_self, BitVec.xor_zero,
    reorder_reorder]

/-- Settles O47: both reads of the ideal board give the mask, which is all that the two comparisons ask. -/
theorem linetestPassesOnIdealBoard : Obligations.LinetestPassesOnIdealBoard := by
  intro s n a b rest hcfg hdir hout hinv henv ha hb
  have hdriven : getPort (driveLine n s).dir s.cfg.pObs = lineMask n := by
    simp [driveLine_eq, hdir]
  have hlines : getPort (driveLine n s).dir s.cfg.pObs &&& getPort s.out s.cfg.pObs = lineMask n := by
    rw [hdriven, hout]
    exact BitVec.and_allOnes
  have ho : sampled s.cfg.pObs s = lineMask n := by
    rw [sampled, pinsNow_cons _ _ _ _ henv, invMask_eq_zero hinv, ha, idealPins]
    simpa using hlines
  have hrest : (observe (driveLine n s)).env = b :: rest := by rw [observe_driveLine_eq, henv, List.tail_cons]
  have hbus : (readPhy (observe (driveLine n s))).1 = lineMask n := by
    rw [readPhy_value_of_idealPins (by simpa using hcfg) hrest hb]
    simpa using hlines
  refine ⟨_, (exec_linetest_checkBus ho).trans (checkBus_pass hbus), ?_, ?_, ?_, ?_, ?_⟩
  · simp [clearDirBits]
  · simp [clearDirBits]
  · simp [clearDirBits, ho]
  · simp [clearDirBits, hbus]
  · simp [clearDirBits, hdriven]

end Sys2Proof.Proofs
end

section
/-! PROOFS. What the failure signaler and the heartbeat share (44_signaling.md): the micro-ops that enter them, and
lighting the indicator once. -/

namespace Sys2Proof.Proofs

open Sys2Proof.Machine Sys2Proof.Safety Sys2Proof.Laws

/-! The micro-ops that enter the loops (44_signaling.md R182, R190). -/

theorem encode_fail (l sc e : Count) :
    encode (.fail l sc e) = 0xD000#16 ||| (l.setWidth 16 <<< 8) ||| (sc.setWidth 16 <<< 4) ||| e.setWidth 16 := by
  rw [← place_at_zero e]
  rfl

theorem wf_fail_iff (nports : Nat) (l sc e : Count) :
    (Instr.fail l sc e).wf nports = false ↔ 9 < l.toNat ∨ 9 < sc.toNat ∨ 9 < e.toNat := illegalCount_iff l sc e

theorem decode_encode_countAboveNine {nports : Nat} {l sc e : Count} (h : (Instr.fail l sc e).wf nports = false) :
    decode nports (encode (.fail l sc e)) = .error .countAboveNine := by
  have hc : (countLegal l && countLegal sc && countLegal e) = false := h
  simp [decode, encode, decodeF, hc]

/-- Settles O48: FAIL's counts decide whether its word decodes, and a group without flashes is its pause alone. -/
theorem failEntersBlink : Obligations.FailEntersBlink := by
  rintro s l c e w rfl
  rw [← encode_fail]
  refine ⟨fun hl hc he => ?_, fun h => decode_encode_countAboveNine ((wf_fail_iff _ _ _ _).mpr h), fun _ => rfl⟩
  have hwf : (Instr.fail l c e).wf s.cfg.nports = true := by
    rw [← Bool.not_eq_false, wf_fail_iff]
    omega
  exact ⟨decode_encode hwf, legalOrHalt_legal _ _ _ hwf⟩

/-- Settles O49: a word of opcode 0xE is its low twelve bits, which format Z wants zero. -/
theorem heartbeatEntersHeart : Obligations.HeartbeatEntersHeart := by
  refine ⟨fun _ => rfl, fun nports x hx => ?_, fun _ => rfl⟩
  have hlow : x ≠ 0#12 := hx
  simp [← place_at_zero, decode, decodeZ, hlow]

/-! Lighting the indicator once, which a flash and a pulse both do (10_state.md R34). -/

/-- The events of a lit and a dark part, on a port whose direction register holds v apart from the indicator's bit. -/
def lightEvents (c : Config) (v : Byte) (on off : WaitTime) : List Event :=
  [.dirW c.led.port (v ||| lineMaskOf c.led), .wait on, .dirW c.led.port (v &&& ~~~lineMaskOf c.led), .wait off]

theorem flashes_eq (c : Config) (v : Byte) (n : Nat) (on off : Duration) :
    flashes c v n on off = (List.replicate n (lightEvents c v (.span on) (.span off))).flatten := rfl

theorem pulse_eq (c : Config) (v : Byte) (d : Nat) :
    pulse c v d = lightEvents c v (.heartUnits d) (.heartUnits (c.hbTop - d)) := rfl

/-- The direction file with one line made an input. -/
def release (l : Line) (d : Vector Byte 16) : Vector Byte 16 :=
  setPort d l.port (getPort d l.port &&& ~~~lineMaskOf l)

@[simp] theorem release_release (l : Line) (d : Vector Byte 16) : release l (release l d) = release l d := by
  simp [release, BitVec.and_assoc]

@[simp] theorem and_not_or (v m : Byte) : v &&& ~~~m ||| m = v ||| m := by
  ext i hi
  cases hm : m[i] <;> simp [hm]

theorem or_and_not (v m : Byte) : (v ||| m) &&& ~~~m = v &&& ~~~m := by
  ext i hi
  cases hm : m[i] <;> simp [hm]

/-- Whether the indicator was dark before, lighting it once records the same events. -/
@[simp] theorem lightEvents_release (c : Config) (d : Vector Byte 16) (on off : WaitTime) :
    lightEvents c (getPort (release c.led d) c.led.port) on off = lightEvents c (getPort d c.led.port) on off := by
  simp [lightEvents, release, BitVec.and_assoc]

theorem light_eq (on off : WaitTime) (s : State) :
    wait off (ledOff (wait on (ledOn s))) =
      { s with
        dir := release s.cfg.led s.dir
        trace := s.trace ++ lightEvents s.cfg (getPort s.dir s.cfg.led.port) on off } := by
  simp [ledOn_eq, ledOff_eq, setDirBits_eq, clearDirBits_eq, wait, record, or_and_not, release, lightEvents]

/-! The nominal length of some events (20_memory.md R65). -/

theorem waitTotal_append (c : Config) (l m : List Event) :
    waitTotal c (l ++ m) = waitTotal c l + waitTotal c m := by
  induction l with
  | nil => simp [waitTotal]
  | cons e l ih => cases e <;> simp [waitTotal, ih, Nat.add_assoc]

theorem waitTotal_flatten (c : Config) (l : List (List Event)) :
    waitTotal c l.flatten = (l.map (waitTotal c)).sum := by
  induction l with
  | nil => rfl
  | cons e l ih => simp [waitTotal_append, ih]

@[simp] theorem waitTotal_lightEvents (c : Config) (v : Byte) (on off : WaitTime) :
    waitTotal c (lightEvents c v on off) = waitMicros c on + waitMicros c off := rfl

end Sys2Proof.Proofs
end

section
/-! PROOFS. The blink loop (44_signaling.md R180, R181, R183): the run of one period, its length and its flashes. -/

namespace Sys2Proof.Proofs

open Sys2Proof.Machine Sys2Proof.Safety Sys2Proof.Laws

/-! The events of a group of flashes (44_signaling.md R181). -/

/-- The events of the last `n` flashes of a group and the pause after them. -/
def groupEvents (c : Config) (v : Byte) (g : BlinkGroup) (n : Nat) : List Event :=
  flashes c v n (flashOn c g) (flashOff c g) ++ [.wait (.span (pauseTime c (pauseAfter g)))]

theorem groupEvents_succ (c : Config) (v : Byte) (g : BlinkGroup) (n : Nat) :
    groupEvents c v g (n + 1) =
      lightEvents c v (.span (flashOn c g)) (.span (flashOff c g)) ++ groupEvents c v g n := by
  simp [groupEvents, flashes_eq, List.replicate_succ]

theorem blinkPeriod_eq (c : Config) (v : Byte) (code : FailCode) :
    blinkPeriod c v code = groupEvents c v .long code.long.toNat ++ groupEvents c v .short code.short.toNat ++
      groupEvents c v .extra code.extra.toNat := by
  simp [blinkPeriod, groupEvents, flashOn, flashOff, pauseTime, pauseAfter]

/-- The state after `n` flashes and some pauses: their events are recorded, and the indicator is dark if it was lit. -/
def signaled (n : Nat) (events : List Event) (b : BlinkPos) (s : State) : State :=
  { s with
    dir := if n = 0 then s.dir else release s.cfg.led s.dir
    trace := s.trace ++ events
    blink := some b }

@[simp] theorem signaled_cfg (n : Nat) (events : List Event) (b : BlinkPos) (s : State) :
    (signaled n events b s).cfg = s.cfg := rfl

theorem signaled_signaled (n m : Nat) (e f : List Event) (b b' : BlinkPos) (s : State) :
    signaled m f b' (signaled n e b s) = signaled (n + m) (e ++ f) b' s := by
  rcases n with _ | n <;> rcases m with _ | m <;> simp [signaled]

/-- The flashes before a group do not change what it records. -/
@[simp] theorem groupEvents_signaled (n m : Nat) (events : List Event) (b : BlinkPos) (s : State) (g : BlinkGroup) :
    groupEvents s.cfg (getPort (signaled n events b s).dir s.cfg.led.port) g m =
      groupEvents s.cfg (getPort s.dir s.cfg.led.port) g m := by
  rcases n with _ | n <;> simp [signaled, groupEvents, flashes_eq]

/-! One part of the blink loop (44_signaling.md R181). -/

/-- A machine that signals code `c`, with no reset input. -/
structure Blinking (c : FailCode) (s : State) : Prop where
  boot : bootRefusal s = none
  mode : s.mode = .blink
  resetIn : s.resetIn = []
  code : s.code = some c

section
variable {c : FailCode} {s : State} {b : BlinkPos} {g : BlinkGroup} {k : Count}

/-- The head of the loop is a flash group, and stands in it. -/
theorem blinkHead_group (hhead : blinkHead b = (g, k)) (j : Count) (ph : Phase) : blinkHead ⟨g, j, ph⟩ = (g, j) := by
  rcases b with ⟨_ | _⟩ <;> cases hhead <;> rfl

theorem blinkPart_lit (hph : b.ph = .off) (hhead : blinkHead b = (g, k)) (hlt : k.toNat < (flashCount c g).toNat) :
    blinkPart c b s = { wait (.span (flashOn s.cfg g)) (ledOn s) with blink := some ⟨g, k, .on⟩ } := by
  simp [blinkPart, hph, hhead, hlt]

theorem blinkPart_pause (hph : b.ph = .off) (hhead : blinkHead b = (g, k)) (hk : (flashCount c g).toNat ≤ k.toNat) :
    blinkPart c b s = signaled 0 (groupEvents s.cfg (getPort s.dir s.cfg.led.port) g 0) ⟨pauseAfter g, 0, .off⟩ s := by
  simp [blinkPart, hph, hhead, hk.not_gt, wait, record, signaled, groupEvents, flashes_eq]

/-- A flash: the lit part and the dark one after it. -/
theorem blinkPart_flash (hph : b.ph = .off) (hhead : blinkHead b = (g, k)) (hlt : k.toNat < (flashCount c g).toNat) :
    blinkPart c ⟨g, k, .on⟩ (blinkPart c b s) =
      signaled 1 (lightEvents s.cfg (getPort s.dir s.cfg.led.port) (.span (flashOn s.cfg g)) (.span (flashOff s.cfg g)))
        ⟨g, k + 1, .off⟩ s := by
  have hlight := light_eq (.span (flashOn s.cfg g)) (.span (flashOff s.cfg g)) s
  rw [blinkPart_lit hph hhead hlt]
  exact congrArg (fun t : State => { t with blink := some ⟨g, k + 1, .off⟩ }) hlight

section
variable (h : Blinking c s)
include h

theorem Blinking.blinkPart (b : BlinkPos) : Blinking c (blinkPart c b s) := by
  rw [blinkPart_eq]
  exact ⟨h.boot, h.mode, h.resetIn, h.code⟩

theorem Blinking.signaled (n : Nat) (events : List Event) (b : BlinkPos) : Blinking c (signaled n events b s) :=
  ⟨h.boot, h.mode, h.resetIn, h.code⟩

theorem Blinking.run_succ (hb : s.blink = some b) (fuel : Nat) :
    Host.Core.run Sys2Proof.core (fuel + 1) s = Host.Core.run Sys2Proof.core fuel (Machine.blinkPart c b s) := by
  refine core_run_succ fuel ?_
  rw [step_eq_modeStep h.boot h.resetIn, modeStep, h.mode]
  exact blinkStep_some h.code hb

end

/-! A group, and a whole period (44_signaling.md R181). -/

/-- The rest of a group: by induction on its `n` flashes still to come, each two steps, before the one step of the
pause. -/
theorem Blinking.run_group {n : Nat} (h : Blinking c s) (hb : s.blink = some b) (hph : b.ph = .off)
    (hhead : blinkHead b = (g, k)) (hn : k.toNat + n = (flashCount c g).toNat) (fuel : Nat) :
    Host.Core.run Sys2Proof.core (fuel + (2 * n + 1)) s = Host.Core.run Sys2Proof.core fuel
      (Proofs.signaled n (groupEvents s.cfg (getPort s.dir s.cfg.led.port) g n) ⟨pauseAfter g, 0, .off⟩ s) := by
  induction n generalizing s b k with
  | zero => rw [h.run_succ hb, blinkPart_pause hph hhead hn.ge]
  | succ n ih =>
    have hlt : k.toNat < (flashCount c g).toNat := by omega
    have hlit : (Machine.blinkPart c b s).blink = some ⟨g, k, .on⟩ := by rw [blinkPart_lit hph hhead hlt]
    have hnext : (k + 1).toNat + n = (flashCount c g).toNat := by bv_omega
    have hsteps : fuel + (2 * (n + 1) + 1) = fuel + (2 * n + 1) + 1 + 1 := rfl
    rw [hsteps, h.run_succ hb, (h.blinkPart b).run_succ hlit, blinkPart_flash hph hhead hlt,
      ih (h.signaled _ _ _) rfl rfl (blinkHead_group hhead _ _) hnext, signaled_signaled, signaled_cfg,
      groupEvents_signaled, groupEvents_succ, Nat.add_comm 1 n]

end

/-- Settles O51: the period is its three groups, each starting where the pause before it ends. -/
theorem blinkPeriodRuns : Obligations.BlinkPeriodRuns := by
  intro s c b hboot hm hr hc hb hph hstart
  have h : Blinking c s := ⟨hboot, hm, hr, hc⟩
  have hlong : blinkHead b = (.long, 0) := by
    rcases hstart with hg | ⟨hg, hk⟩
    · simp [blinkHead, hg]
    · simp [blinkHead, hg, hk]
  have hshort : blinkHead ⟨pauseAfter .long, 0, .off⟩ = (.short, 0) := rfl
  have hextra : blinkHead ⟨pauseAfter .short, 0, .off⟩ = (.extra, 0) := rfl
  have hsteps : 2 * flashTotal c + 3 =
      0 + (2 * c.extra.toNat + 1) + (2 * c.short.toNat + 1) + (2 * c.long.toNat + 1) := by
    simp only [flashTotal]
    omega
  have hwhole (m : Count) : (0 : Count).toNat + m.toNat = m.toNat := Nat.zero_add _
  rw [hsteps, h.run_group hb hph hlong (hwhole c.long),
    (h.signaled _ _ _).run_group rfl rfl hshort (hwhole c.short), signaled_signaled,
    (h.signaled _ _ _).run_group rfl rfl hextra (hwhole c.extra), signaled_signaled, signaled_cfg, signaled_cfg,
    groupEvents_signaled, groupEvents_signaled, ← blinkPeriod_eq]
  rfl

/-! The length of a period and its flashes (44_signaling.md R183). -/

theorem waitTotal_flashes (c : Config) (v : Byte) (n : Nat) (on off : Duration) :
    waitTotal c (flashes c v n on off) = n * (micros on + micros off) := by
  simp [flashes_eq, waitTotal_flatten, waitMicros]

/-- LedOn and LedOff write different values: they differ in the indicator's bit. -/
theorem or_lineMaskOf_ne_and_not (v : Byte) (l : Line) : v ||| lineMaskOf l ≠ v &&& ~~~lineMaskOf l := fun h => by
  have hbit := congrArg (·.getLsbD l.pin.toNat) h
  simp [getLsbD_lineMaskOf] at hbit

theorem count_ledOn_flashes (c : Config) (v : Byte) (n : Nat) (on off : Duration) :
    (flashes c v n on off).count (.dirW c.led.port (v ||| lineMaskOf c.led)) = n := by
  simp [flashes_eq, lightEvents, List.count_flatten, (or_lineMaskOf_ne_and_not v c.led).symm]

theorem count_ledOff_flashes (c : Config) (v : Byte) (n : Nat) (on off : Duration) :
    (flashes c v n on off).count (.dirW c.led.port (v &&& ~~~lineMaskOf c.led)) = n := by
  simp [flashes_eq, lightEvents, List.count_flatten, or_lineMaskOf_ne_and_not v c.led]

/-- Settles O52, by summing over the flashes of each group. -/
theorem blinkPeriodLength : Obligations.BlinkPeriodLength := by
  intro c v code
  refine ⟨?_, ?_, ?_⟩
  · simp only [blinkPeriod, waitTotal_append, waitTotal_flashes, waitTotal, waitMicros]
    ring
  · simp [blinkPeriod, flashTotal, count_ledOn_flashes, Nat.add_assoc]
  · simp [blinkPeriod, flashTotal, count_ledOff_flashes, Nat.add_assoc]

end Sys2Proof.Proofs
end

section
/-! PROOFS. The heartbeat (44_signaling.md R191, R192): the run of one ramp, and the duty of every counter value. -/

namespace Sys2Proof.Proofs

open Sys2Proof.Machine Sys2Proof.Safety Sys2Proof.Laws

/-! One pulse of the heartbeat (44_signaling.md R191). -/

/-- A machine in the heartbeat, with no reset input. -/
structure Beating (s : State) : Prop where
  boot : bootRefusal s = none
  mode : s.mode = .heart
  resetIn : s.resetIn = []

/-- The state after some pulses, the last of them dark again. -/
def pulsed (events : List Event) (cnt : BitVec 6) (s : State) : State :=
  { s with
    dir := release s.cfg.led s.dir
    trace := s.trace ++ events
    heart := some ⟨cnt, .off⟩ }

theorem heartPart_pulse (cnt : BitVec 6) (s : State) :
    heartPart ⟨cnt, .on⟩ (heartPart ⟨cnt, .off⟩ s) =
      pulsed (pulse s.cfg (getPort s.dir s.cfg.led.port) (heartDuty s.cfg cnt)) (heartNext s.cfg cnt) s :=
  have hlight := light_eq (.heartUnits (heartDuty s.cfg cnt)) (.heartUnits (s.cfg.hbTop - heartDuty s.cfg cnt)) s
  congrArg (fun t : State => { t with heart := some ⟨heartNext s.cfg cnt, .off⟩ }) hlight

theorem Beating.run_succ {s : State} {p : HeartPos} (h : Beating s) (hp : s.heart = some p) (k : Nat) :
    Host.Core.run Sys2Proof.core (k + 1) s = Host.Core.run Sys2Proof.core k (heartPart p s) := by
  refine core_run_succ k ?_
  rw [step_eq_modeStep h.boot h.resetIn, modeStep, h.mode]
  exact heartStep_some hp

/-- The two steps of a pulse. -/
theorem Beating.run_pulse {s : State} {cnt : BitVec 6} (h : Beating s) (hp : s.heart = some ⟨cnt, .off⟩) (k : Nat) :
    Host.Core.run Sys2Proof.core (k + 2) s = Host.Core.run Sys2Proof.core k
      (pulsed (pulse s.cfg (getPort s.dir s.cfg.led.port) (heartDuty s.cfg cnt)) (heartNext s.cfg cnt) s) := by
  have hlit : Beating (heartPart ⟨cnt, .off⟩ s) := ⟨h.boot, h.mode, h.resetIn⟩
  rw [h.run_succ hp, hlit.run_succ rfl, heartPart_pulse]

theorem heartDuty_eq_rampDuty (c : Config) (cnt : BitVec 6) : heartDuty c cnt = rampDuty c cnt.toNat := rfl

/-! A whole ramp (44_signaling.md R191, R192). -/

/-- The pulses of `n` counter values from `first` on. -/
def pulses (c : Config) (v : Byte) (first n : Nat) : List Event :=
  ((List.range' first n).map (fun cnt => pulse c v (rampDuty c cnt))).flatten

theorem heartRamp_eq (c : Config) (v : Byte) : heartRamp c v = pulses c v 0 (c.hbTop + 1) := by
  rw [heartRamp, pulses, List.range_eq_range']

theorem pulses_succ (c : Config) (v : Byte) (first n : Nat) :
    pulses c v first (n + 1) = pulse c v (rampDuty c first) ++ pulses c v (first + 1) n := by
  simp [pulses, List.range'_succ]

theorem pulses_release (c : Config) (d : Vector Byte 16) (first n : Nat) :
    pulses c (getPort (release c.led d) c.led.port) first n = pulses c (getPort d c.led.port) first n := by
  simp [pulses, pulse_eq]

/-- The rest of a ramp: the pulses of the values from the counter up to HB_TOP. -/
theorem Beating.run_ramp {n : Nat} {s : State} {cnt : BitVec 6} (h : Beating s) (htop : s.cfg.hbTop ≤ 63)
    (hp : s.heart = some ⟨cnt, .off⟩) (hn : cnt.toNat + n = s.cfg.hbTop) :
    Host.Core.run Sys2Proof.core (2 * (n + 1)) s =
      .next (pulsed (pulses s.cfg (getPort s.dir s.cfg.led.port) cnt.toNat (n + 1)) 0 s) := by
  induction n generalizing s cnt with
  | zero =>
    have hwrap : heartNext s.cfg cnt = 0 := if_pos (by omega)
    rw [show 2 * (0 + 1) = 0 + 2 by rfl, h.run_pulse hp, hwrap, pulses_succ, heartDuty_eq_rampDuty]
    simp [pulses, Host.Core.run]
  | succ n ih =>
    have hnext : heartNext s.cfg cnt = cnt + 1 := if_neg (by omega)
    have hcnt : (cnt + 1).toNat = cnt.toNat + 1 := by bv_omega
    have hpulsed (events : List Event) : Beating (pulsed events (cnt + 1) s) := ⟨h.boot, h.mode, h.resetIn⟩
    rw [show 2 * (n + 1 + 1) = 2 * (n + 1) + 2 by rfl, h.run_pulse hp, hnext,
      ih (hpulsed _) htop rfl (by rw [hcnt]; simp only [pulsed]; omega), hcnt, pulses_succ _ _ _ (n + 1),
      heartDuty_eq_rampDuty]
    simp [pulsed, pulses_release]

/-- Settles O53: the ramp from counter 0. -/
theorem heartRampRuns : Obligations.HeartRampRuns := by
  intro s hboot hm hr htop hp
  have h : Beating s := ⟨hboot, hm, hr⟩
  rw [h.run_ramp htop hp (by simp), heartRamp_eq]
  rfl

/-! The duty of every counter value (44_signaling.md R192). -/

theorem heartDuty_ofNat (c : Config) {n : Nat} (hn : n < 64) : heartDuty c (BitVec.ofNat 6 n) = rampDuty c n := by
  rw [heartDuty_eq_rampDuty, BitVec.toNat_ofNat, Nat.mod_eq_of_lt hn]

/-- A pulse lasts HB_TOP units, whatever its duty. -/
theorem waitTotal_pulse (c : Config) (v : Byte) {d : Nat} (hd : d ≤ c.hbTop) :
    waitTotal c (pulse c v d) = c.hbTop * micros c.hbUnit := by
  rw [pulse_eq, waitTotal_lightEvents, waitMicros, waitMicros, ← Nat.add_mul, Nat.add_sub_cancel' hd]

theorem rampDuty_le_hbTop {c : Config} (h : c.hbMid ≤ c.hbTop) (n : Nat) : rampDuty c n ≤ c.hbTop := by
  unfold rampDuty
  split <;> omega

theorem waitTotal_heartRamp {c : Config} (h : c.hbMid ≤ c.hbTop) (v : Byte) :
    waitTotal c (heartRamp c v) = (c.hbTop + 1) * (c.hbTop * micros c.hbUnit) := by
  simp [heartRamp, waitTotal_flatten, Function.comp_def, waitTotal_pulse, rampDuty_le_hbTop h]

/-- Settles O54: the table is the mirrored ramp, and every pulse lasts HB_TOP units. -/
theorem heartDutyTable : Obligations.HeartDutyTable := by
  intro c htop hmid
  have hduty : (List.range 33).map (fun n => heartDuty c (BitVec.ofNat 6 n)) = (List.range 33).map (rampDuty c) :=
    List.map_congr_left fun n hn => heartDuty_ofNat c (by have := List.mem_range.mp hn; omega)
  have htable : (List.range 33).map (rampDuty c) =
      [0, 1, 2, 3, 4, 5, 6, 7, 8, 9, 10, 11, 12, 13, 14, 15, 16, 15, 14, 13, 12, 11, 10, 9, 8, 7, 6, 5, 4, 3, 2, 1,
        0] := by
    have hramp : rampDuty c = fun n => if n ≤ 16 then n else 32 - n := by
      funext n
      rw [rampDuty, htop, hmid]
    rw [hramp]
    rfl
  refine ⟨hduty.trans htable, hduty, by rw [htable]; rfl, fun v => ?_⟩
  rw [waitTotal_heartRamp (by omega), htop, ← Nat.mul_assoc]

end Sys2Proof.Proofs
end

section
/-! PROOFS. The words of the standard sequence (45_post_sequence.md R200 to R208): each encodes a micro-op whose
ports exist on a legal board. -/

namespace Sys2Proof.Proofs

open Sys2Proof.Machine Sys2Proof.Safety Sys2Proof.Laws

/-! The ports a legal board names (00_scope.md R7, 45_post_sequence.md R201). -/

theorem portExists_of_mem_usedLines {c : Config} (h : configOk c = true) {l : Line} (hl : l ∈ usedLines c) :
    portExists c.nports l.port = true := by
  simp only [configOk, portsOk, Bool.and_eq_true, List.all_eq_true] at h
  obtain ⟨⟨⟨⟨-, hlines⟩, -⟩, -⟩, -⟩ := h
  have hok := hlines l hl
  simp only [lineOk, Bool.and_eq_true] at hok
  exact hok.1.1

theorem portExists_pPhyd_of_configOk {c : Config} (h : configOk c = true) : portExists c.nports c.pPhyd = true := by
  simp only [configOk, portsOk, Bool.and_eq_true] at h
  obtain ⟨⟨⟨⟨⟨⟨-, hphyd⟩, -⟩, -⟩, -⟩, -⟩, -⟩ := h
  exact hphyd

theorem portExists_of_mem_vpmapCfg {c : Config} (h : configOk c = true) {kp : VPortNo × PortNo}
    (hkp : kp ∈ c.vpmapCfg) : portExists c.nports kp.2 = true := by
  simp only [configOk, vpmapOk, Bool.and_eq_true, List.all_eq_true] at h
  obtain ⟨⟨-, -, hpairs⟩, -⟩ := h
  exact hpairs kp hkp

/-! Every micro-op of the standard sequence has operands with a meaning (30_encoding.md R84), part by part. -/

theorem delayInstr_wf (nports : Nat) (d : Duration) : (delayInstr d).wf nports = true := rfl

section
variable {c : Config} (h : configOk c = true)
include h

theorem levelOf_wf {l : Line} (hl : l ∈ usedLines c) (level : Bool) : (levelOf l level).wf c.nports = true := by
  cases level <;> exact portExists_of_mem_usedLines h hl

theorem outLine_wf {l : Line} (hl : l ∈ usedLines c) (level : Bool) : ∀ i ∈ outLine l level, i.wf c.nports = true := by
  have hdir : (Instr.dirset l.port (lineMaskOf l)).wf c.nports = true := portExists_of_mem_usedLines h hl
  simp only [outLine, List.forall_mem_cons]
  exact ⟨levelOf_wf h hl level, hdir, List.forall_mem_nil _⟩

theorem bringUp_wf : ∀ i ∈ bringUp c, i.wf c.nports = true := by
  have hpairs : ∀ kp ∈ c.vpmapCfg, (Instr.vpmap kp.1 kp.2).wf c.nports = true :=
    fun _ => portExists_of_mem_vpmapCfg h
  have hled : (Instr.outclr c.led.port (lineMaskOf c.led)).wf c.nports = true := (boardFacts_of_configOk h).led
  simp only [bringUp, List.cons_append, List.forall_mem_cons, List.forall_mem_append, List.forall_mem_map]
  exact ⟨rfl, hpairs, hled, List.forall_mem_nil _⟩

theorem observationSetup_wf : ∀ i ∈ observationSetup c, i.wf c.nports = true := by
  simp [observationSetup, Instr.wf, (boardFacts_of_configOk h).pObs]

theorem phyControl_wf : ∀ i ∈ phyControl c, i.wf c.nports = true := by
  unfold phyControl
  split
  · next hc =>
    have hlines : [c.phyPen, c.phyClk, c.phyOe] ⊆ usedLines c := by simp [usedLines, hc]
    simp only [List.cons_subset] at hlines
    obtain ⟨hpen, hclk, hoe, -⟩ := hlines
    simp only [List.forall_mem_append]
    exact ⟨⟨outLine_wf h hpen _, outLine_wf h hclk _⟩, outLine_wf h hoe _⟩
  · exact List.forall_mem_nil _

theorem phyData_wf : ∀ i ∈ phyData c, i.wf c.nports = true := by
  simp [phyData, Instr.wf, portExists_pPhyd_of_configOk h]

theorem ethernetSetup_wf : ∀ i ∈ ethernetSetup c, i.wf c.nports = true := by
  unfold ethernetSetup
  split
  · next he =>
    have hlines : [c.ethCs, c.ethRst, c.ethSck, c.ethMosi] ⊆ usedLines c := by simp [usedLines, he]
    simp only [List.cons_subset] at hlines
    obtain ⟨hcs, hrst, hsck, hmosi, -⟩ := hlines
    have hspi : (Instr.spicfg c.ethBaud c.ethCpol true true).wf c.nports = true := rfl
    simp only [List.forall_mem_append, List.forall_mem_singleton, List.forall_mem_cons, delayInstr_wf,
      levelOf_wf h hrst, hspi, and_true]
    exact ⟨⟨⟨outLine_wf h hcs _, outLine_wf h hrst _⟩, outLine_wf h hsck _⟩, outLine_wf h hmosi _⟩
  · exact List.forall_mem_nil _

theorem storageSetup_wf : ∀ i ∈ storageSetup c, i.wf c.nports = true := by
  unfold storageSetup
  split
  · next hs =>
    have hlines : [c.storClk, c.storTx, c.storCs] ⊆ usedLines c := by simp [usedLines, hs]
    simp only [List.cons_subset] at hlines
    obtain ⟨hclk, htx, hcs, -⟩ := hlines
    simp only [List.forall_mem_append]
    exact ⟨⟨outLine_wf h hclk _, outLine_wf h htx _⟩, outLine_wf h hcs _⟩
  · exact List.forall_mem_nil _

theorem selfTest_wf : ∀ i ∈ selfTest c, i.wf c.nports = true := by
  simp [selfTest, relall, Instr.wf, (boardFacts_of_configOk h).pObs]

theorem standardProgram_wf : ∀ i ∈ standardProgram c, i.wf c.nports = true := by
  simp only [standardProgram, List.forall_mem_append]
  exact ⟨⟨⟨⟨⟨⟨bringUp_wf h, observationSetup_wf h⟩, phyControl_wf h⟩, phyData_wf h⟩, ethernetSetup_wf h⟩,
    storageSetup_wf h⟩, selfTest_wf h⟩

theorem decode_standardSequence :
    (standardSequence c).map (decode c.nports) = (standardProgram c).map Except.ok := by
  rw [standardSequence, List.map_map]
  exact List.map_congr_left fun i hi => decode_encode (standardProgram_wf h i hi)

end

/-- The self-test comes last, and HEARTBEAT last of it (45_post_sequence.md R200, R207). -/
theorem getLast?_standardProgram (c : Config) : (standardProgram c).getLast? = some .heartbeat := by
  rw [standardProgram, selfTest, ← List.append_assoc, List.getLast?_concat]

theorem getLast?_standardSequence (c : Config) : (standardSequence c).getLast? = some 0xE000 := by
  rw [standardSequence, List.getLast?_map, getLast?_standardProgram]
  rfl

/-- Settles O55: the length is that of the parts, each word is the encoding of a well-formed micro-op, and the self-test
ends the sequence. -/
theorem standardSequenceShape : Obligations.StandardSequenceShape := by
  intro c h
  have hlength : (standardSequence c).length = (standardProgram c).length := List.length_map ..
  exact ⟨hlength.trans (length_standardProgram c), hlength ▸ length_standardProgram_le h, standardSequence_ok h,
    decode_standardSequence h, getLast?_standardSequence c⟩

end Sys2Proof.Proofs
end

section
/-! PROOFS. The terminal states (60_exceptions.md R220, R224): a state of the invariant always has a next one, and a step
that ends in HALT leaves what is seen from outside. -/

namespace Sys2Proof.Proofs

open Sys2Proof.Machine Sys2Proof.Safety Sys2Proof.Laws

/-- Settles O18: the invariant excludes both cases in which a step has no next state. -/
theorem invStepsAlwaysComplete : Obligations.InvStepsAlwaysComplete := fun s h =>
  (onlySequenceStopsStep s).1.mpr ⟨h.sequence, fun _ => .inl h.upcInRange⟩

/-! The ways into HALT. -/

/-- In RUN a micro-op ends in HALT as an ILLEGAL word alone: every other outcome stays in RUN or enters a loop. -/
theorem performs_halt {i : Instr} {s t : State} (hp : Performs i s t) (hm : s.mode = .run) (ht : t.mode = .halt) :
    t = haltIllegal (encode i) s := by
  cases hp with
  | illegal => rfl
  | idlechkFail | outputShort | inputShort | fail | heartbeat => cases ht
  | rdphy | linetestPass => simp [clearDirBits, hm] at ht
  | _ => cases hm.symm.trans ht

/-- A step that ends in HALT stood there and changed nothing, or halted on an ILLEGAL word or the overrun. -/
theorem modePerforms_halt {s t : State} (hp : ModePerforms s t) (ht : t.mode = .halt) :
    t = s ∨ (∃ w, t = haltIllegal w s) ∨ t = raiseHalt .overrun s := by
  cases hp with
  | word hm _ _ hp => exact .inr (.inl ⟨_, performs_halt hp hm ht⟩)
  | illegal => exact .inr (.inl ⟨_, rfl⟩)
  | overrun => exact .inr (.inr rfl)
  | blink hm => rw [blinkPart_eq] at ht; cases hm.symm.trans ht
  | heart hm => rw [heartPart_eq] at ht; cases hm.symm.trans ht
  | halt => exact .inl rfl

/-! What is seen of a halt on an ILLEGAL word. HALT_WORD is no part of either view. -/

@[simp] theorem ledLit_haltIllegal (w : Word) (s : State) : ledLit (haltIllegal w s) = ledLit s :=
  ledLit_raiseHalt .illegal { s with haltWord := some w }

@[simp] theorem driven_haltIllegal (w : Word) (s : State) (p : PortNo) (i : PinNo) :
    driven (haltIllegal w s) p i = driven s p i :=
  driven_raiseHalt .illegal { s with haltWord := some w } p i

/-- Settles O57: each way of ending a step in HALT keeps the port registers and adds no event but Halt. -/
theorem haltKeepsWhatIsSeen : Obligations.HaltKeepsWhatIsSeen := by
  intro s t hr h ht
  obtain rfl | ⟨w, rfl⟩ | rfl := modePerforms_halt (modePerforms_of_step hr h) ht
  · exact ⟨rfl, rfl, rfl, rfl, fun _ _ => rfl⟩
  · exact ⟨rfl, rfl, rfl, ledLit_haltIllegal w s, driven_haltIllegal w s⟩
  · exact ⟨rfl, rfl, rfl, ledLit_raiseHalt .overrun s, driven_raiseHalt .overrun s⟩

end Sys2Proof.Proofs
end

section
/-! PROOFS. The reset input (70_reset_and_hazards.md R240 to R242): what a reset leaves, and a reset taken at once, inside a
step, or after it. -/

namespace Sys2Proof.Proofs

open Sys2Proof.Machine Sys2Proof.Safety Sys2Proof.Laws

/-! After a reset (70_reset_and_hazards.md R241). -/

/-- A reset keeps the sequence and clears UPC, so that its first word is fetched next. -/
theorem fetch_takeReset {s : State} {w : Word} {rest : List Word} (hs : s.seq = w :: rest) (events : List Event) :
    fetch (takeReset events s) = .word w := by
  simp [fetch, takeReset, State.initial, hs]

@[simp] theorem getPort_dir_takeReset (events : List Event) (s : State) (p : PortNo) :
    getPort (takeReset events s).dir p = 0 := (initial_ports s.cfg s.seq p).1

/-- After a reset every direction bit is clear, so no pin is driven (10_state.md R28). -/
theorem driven_takeReset (events : List Event) (s : State) (p : PortNo) (i : PinNo) :
    driven (takeReset events s) p i = none := (directionDecidesDrive _ p i).1 (by simp)

/-- The indicator is one of those lines, so it is dark (10_state.md R34). -/
theorem ledLit_takeReset (events : List Event) (s : State) : ledLit (takeReset events s) = false := ledLit_dark (by simp)

/-- Settles O6, from the views of the reset state. -/
theorem resetEntry : Obligations.ResetEntry := fun s events _ _ hs =>
  ⟨rfl, rfl, fetch_takeReset hs events, ledLit_takeReset events s, driven_takeReset events s⟩

/-! When the reset input falls due (70_reset_and_hazards.md R240; log entry 5). -/

theorem underReset_due {s : State} {later : List Nat} (h : s.resetIn = 0 :: later) (r : Result) :
    underReset s r = .next (takeReset [] s) := by
  simp only [underReset, h]

/-- A reset due before the last event of a step cuts it. -/
theorem underReset_cut {s t : State} {k : Nat} {later : List Nat} (h : s.resetIn = (k + 1) :: later)
    (hk : k + 1 < (newEvents s t).length) :
    underReset s (.next t) = .next (takeReset ((newEvents s t).take (k + 1)) s) := by
  simp only [underReset, h, if_pos hk]

/-- A reset due at the end of a step or after it lets the step stand. -/
theorem underReset_counts {s t : State} {k : Nat} {later : List Nat} (h : s.resetIn = (k + 1) :: later)
    (hk : (newEvents s t).length ≤ k + 1) :
    underReset s (.next t) = .next { t with resetIn := (k + 1 - (newEvents s t).length) :: later } := by
  simp only [underReset, h, if_neg hk.not_gt]

/-- Settles O7: the mode is not asked, since the step it selects is dropped. -/
theorem resetTakenInAnyMode : Obligations.ResetTakenInAnyMode := by
  intro s later hb hr
  rw [step_of_boot hb, underReset_due hr]
  simp [takeReset, readsIn, hr]

/-! The step MODE selects does not depend on the resets still to come, and hands them on. -/

/-- A state with other resets still to come. -/
def withResets (r : List Nat) (s : State) : State := { s with resetIn := r }

/-- An outcome with other resets still to come. -/
def withResetsResult (r : List Nat) : Result → Result
  | .next t => .next (withResets r t)
  | .fault f => .fault f
  | .refused f => .refused f

section

variable (r : List Nat) (s : State)

@[simp] theorem withResets_cfg : (withResets r s).cfg = s.cfg := rfl

/-- The reset input is no part of a sample. -/
@[simp] theorem sampled_withResets (p : PortNo) : sampled p (withResets r s) = sampled p s :=
  sampled_congr p rfl rfl rfl

theorem phyEnable_withResets : phyEnable (withResets r s) = withResets r (phyEnable s) := by
  unfold phyEnable
  rw [apply_ite (withResets r)]
  rfl

theorem phyDisable_withResets : phyDisable (withResets r s) = withResets r (phyDisable s) := by
  unfold phyDisable
  rw [apply_ite (withResets r)]
  rfl

theorem readPhy_withResets : readPhy (withResets r s) = ((readPhy s).1, withResets r (readPhy s).2) := by
  simp only [readPhy, phyEnable_withResets, withResets_cfg, sampled_withResets, ← phyDisable_withResets]
  rfl

theorem readBus_withResets : readBus (withResets r s) = withResets r (readBus s) := by
  simp only [readBus, readPhy_withResets]
  rfl

theorem blinkPart_withResets (c : FailCode) (b : BlinkPos) :
    blinkPart c b (withResets r s) = withResets r (blinkPart c b s) := by
  unfold blinkPart
  split
  · rfl
  · split <;> rfl

theorem heartPart_withResets (h : HeartPos) : heartPart h (withResets r s) = withResets r (heartPart h s) := by
  unfold heartPart
  split <;> rfl

theorem legalOrHalt_withResets (i : Instr) (t : State) :
    legalOrHalt i (withResets r s) (withResets r t) = withResetsResult r (legalOrHalt i s t) := by
  unfold legalOrHalt
  rw [apply_ite (withResetsResult r)]
  rfl

theorem execIdlechk_withResets : execIdlechk (withResets r s) = withResetsResult r (execIdlechk s) := by
  unfold execIdlechk
  rw [apply_ite (withResetsResult r)]
  rfl

theorem checkBus_withResets (n : BitVec 3) : checkBus n (withResets r s) = withResetsResult r (checkBus n s) := by
  unfold checkBus
  rw [apply_ite (withResetsResult r), readBus_withResets, readPhy_withResets]
  rfl

theorem execLinetest_withResets (n : BitVec 3) :
    execLinetest n (withResets r s) = withResetsResult r (execLinetest n s) := by
  unfold execLinetest
  rw [apply_ite (withResetsResult r), ← checkBus_withResets]
  rfl

theorem exec_withResets (i : Instr) : exec i (withResets r s) = withResetsResult r (exec i s) := by
  cases i with
  | vpmap k p => exact legalOrHalt_withResets r s _ (advance (writeVpmap k p s))
  | dirset p m => exact legalOrHalt_withResets r s _ (advance (setDirBits p m s))
  | dirclr p m => exact legalOrHalt_withResets r s _ (advance (clearDirBits p m s))
  | outset p m => exact legalOrHalt_withResets r s _ (advance (setOutBits p m s))
  | outclr p m => exact legalOrHalt_withResets r s _ (advance (clearOutBits p m s))
  | pincfg p pin a v => exact legalOrHalt_withResets r s _ (advance (writePinCtrl p pin a v s))
  | fail l sc e => exact legalOrHalt_withResets r s _ (raiseFail l sc e s)
  | rdphy => exact congrArg (fun t => Host.Outcome.next (advance t)) (readBus_withResets r s)
  | idlechk => exact execIdlechk_withResets r s
  | linetest n => exact execLinetest_withResets r s n
  | nop | dbgoff | delay | spicfg | heartbeat | reserved => rfl

theorem runStep_withResets : runStep (withResets r s) = withResetsResult r (runStep s) := by
  have hfetch : fetch (withResets r s) = fetch s := rfl
  unfold runStep
  rw [hfetch, withResets_cfg]
  split
  · split
    · exact exec_withResets r s _
    · rfl
  · rfl
  · rfl

theorem modeStep_withResets : modeStep (withResets r s) = withResetsResult r (modeStep s) := by
  have hmode : (withResets r s).mode = s.mode := rfl
  unfold modeStep
  rw [hmode]
  split
  · exact runStep_withResets r s
  · exact congrArg Host.Outcome.next (blinkPart_withResets r s _ _)
  · exact congrArg Host.Outcome.next (heartPart_withResets r s _)
  · rfl

end

/-- With resets pending, a step is the one without them, under the reset input. -/
theorem step_withResets {s u : State} (hr : s.resetIn = []) (h : step s = .next u) (r : List Nat) :
    step (withResets r s) = underReset (withResets r s) (.next (withResets r u)) := by
  have hb : bootRefusal s = none := (step_next h).1
  rw [step_eq_modeStep hb hr] at h
  rw [step_of_boot (s := withResets r s) hb, modeStep_withResets, h]
  rfl

/-- Settles O8: the step recorded `newEvents`, whose number decides whether the pending reset cuts it. -/
theorem resetAtAnyEventBoundary : Obligations.ResetAtAnyEventBoundary := by
  intro s u k later hr h
  have hlen : (newEvents s u).length = u.trace.length - s.trace.length := List.length_drop
  have hstep := step_withResets hr h ((k + 1) :: later)
  rw [← hlen]
  refine ⟨fun hk => ?_, fun hk => hstep.trans (underReset_counts rfl hk)⟩
  obtain ⟨events, htrace⟩ := traceOnlyGrows s u h
  have hnew : newEvents s u = events := by simp [newEvents, htrace]
  have hcut : u.trace.take (s.trace.length + (k + 1)) = s.trace ++ (newEvents s u).take (k + 1) := by
    rw [hnew, htrace, List.take_length_add_append]
  rw [hcut]
  exact hstep.trans (underReset_cut rfl hk)

end Sys2Proof.Proofs
end
